-- ==== Sys2Proof/Word.lean ====
section
/-! DEFINITION. Word.lean: the octet, which is what crosses both interfaces of the station (spec/00_scope.md 1.7). -/

namespace Sys2Proof

/-- One octet of a frame or of a host transaction. -/
abbrev Byte := BitVec 8

/-- The sequence number's word (R8) and the frame check's word (R32). -/
abbrev Word16 := BitVec 16

end Sys2Proof
end

