-- ==== Sys2Proof/Syntax.lean ====
section
/-! DEFINITION. Syntax.lean: the commands of the block, one constructor per row of spec/opcode_table.json, and the
data that a command's operands carry. -/

namespace Sys2Proof

/-- The two levels of the zone line (spec/00_scope.md 1.5). -/
inductive Level where
  /-- The level any one station can force. -/
  | drive
  /-- The level the line takes when no station drives. -/
  | rest
  deriving DecidableEq, Repr

/-- A set of station numbers, kept as the ascending list of its members (spec/00_scope.md 1.7). -/
abbrev StationSet := List Nat

/-- The cells of a frame as a station read them (R30, R31): key, length, body and the two CRC cells, with the one
fault of an end bit that leaves the extent of the frame known (R37). -/
structure FrameCells where
  key : Byte
  length : Byte
  body : List Byte
  crcHigh : Byte
  crcLow : Byte
  /-- The end bit of some body or CRC cell was sampled DRIVE (R37). -/
  endFault : Bool
  deriving DecidableEq, Repr

/-- Everything a station read of a frame by its frame end (R34): the cells, the roll-call picture (R43), the two
verdict samples (R45) and, for a JOIN, the standing picture (R46). -/
structure FrameObs where
  cells : FrameCells
  rollCall : StationSet
  verdict1 : Level
  verdict2 : Level
  standing : StationSet
  deriving DecidableEq, Repr

/-- The faults that break a frame off at a station (R36, R125). -/
inductive BreakCause where
  /-- The bit opened by the key's mark edge was read REST (R125). -/
  | keyMarkRest
  /-- The mark bit of a later cell was sampled REST (R36). -/
  | markRest
  /-- The end bit of the key cell was sampled DRIVE (R36, R128). -/
  | keyEndDrive
  /-- The end bit of the length cell was sampled DRIVE (R36, R129). -/
  | lengthEndDrive
  /-- The length cell carries a value above 40 (R36). -/
  | lengthAbove40
  deriving DecidableEq, Repr

/-- The commands of the block: one constructor per row of spec/opcode_table.json. A host command carries its operand
octets (R159); a line command carries what the line unit read or counted; a deadline carries whose it is. -/
inductive Instr where
  /-- CONFIGURE, R155: station number, R, Z, rate code, lease code, guard code, E, T, attention mask. -/
  | configure (station slots zones rate lease guardCode evict retry mask : Byte)
  /-- START, R172. -/
  | start
  /-- SUBMIT, R137: slot, mode, zone count and the four zone octets. -/
  | submit (slot mode count zone1 zone2 zone3 zone4 : Byte)
  /-- The host DROP command, R140: slot. -/
  | drop (slot : Byte)
  /-- CLEAR, R146: slot. -/
  | clear (slot : Byte)
  /-- The SLOT read, R147: slot. -/
  | slot (slot : Byte)
  /-- The ZONE read, R28: zone. -/
  | zone (zone : Byte)
  /-- The ROSTER read, R157. -/
  | roster
  /-- The ATTENTION read, R164. -/
  | attention
  /-- ACKNOWLEDGE, R165: source code. -/
  | acknowledge (source : Byte)
  /-- The host LEAVE command, R99. -/
  | leave
  /-- RESTART, R175. -/
  | restart
  /-- IDENT, R157. -/
  | ident
  /-- UNKNOWN_COMMAND, R152: the command octet and the operand octets it declares. -/
  | unknownCommand (command : Byte) (operands : List Byte)
  /-- TRANSACTION_NOT_TAKEN, R152: the octets complete when CSN rises, and the bits of the partial one. -/
  | transactionNotTaken (octets : List Byte) (partialBits : List Bool)
  /-- COLD_RESET, R179: RESETN taken low, or power-up. -/
  | coldReset
  /-- RESETN_RELEASE, R180: RESETN rises, with CSN low or high at that moment (R154). -/
  | resetnRelease (csnLow : Bool)
  /-- FRAME_START, R127: a start moment, with the quiet time counted. -/
  | frameStart (quiet : Nat)
  /-- KEY_MARK, R34, R127: a mark edge accepted in QUIET, with the quiet time counted. -/
  | keyMark (quiet : Nat)
  /-- ARBITRATION_LOSS, R128. -/
  | arbitrationLoss
  /-- BIT_ERROR, R129. -/
  | bitError
  /-- FRAME_BROKEN_OFF, R36, with the fault. -/
  | frameBrokenOff (cause : BreakCause)
  /-- IDENTITY_CLASH, R60, R61: the cells received when the second CRC cell ended. -/
  | identityClash (cells : FrameCells)
  /-- FRAME_END, R47: all that was read of the frame. -/
  | frameEnd (obs : FrameObs)
  /-- STUCK, R130. -/
  | stuck
  /-- LINE_NORMAL, R131. -/
  | lineNormal
  /-- FRAME_AWARE, R126. -/
  | frameAware
  /-- ROUND_GAP, R117. -/
  | roundGap
  /-- PEER_LEASE_REACHED, R68: the peer whose lease is reached. -/
  | peerLeaseReached (peer : Nat)
  /-- OWN_PULSE_DEADLINE_REACHED, R73. -/
  | ownPulseDeadlineReached
  /-- FENCE, R74. -/
  | fence
  /-- CENSUS_WINDOW_REACHED, R94. -/
  | censusWindowReached
  deriving DecidableEq, Repr

end Sys2Proof
end

