-- ==== Sys2Proof/Decode.lean ====
section
/-! DEFINITION. Decode.lean: the words of the opcode table, and the octets of a host transaction read as a command
(R151, R152, R159) with their encoder. -/

namespace Sys2Proof

/-- The command a word spells by the table's bits: the table gives no row any bits, so no word spells one (log 21). -/
def decodeTableWord (_nbits _w : Nat) : Option Instr :=
  none

/-- R151: the command code, bits 7 to 4 of the command octet. -/
def commandCode (command : Byte) : Nat :=
  command.toNat / 16

/-- R151: the declared operand count, bits 3 to 0 of the command octet. -/
def declaredCount (command : Byte) : Nat :=
  command.toNat % 16

/-- R159: the operand count of each of the thirteen command codes; none for an unknown code. -/
def operandCount (code : Nat) : Option Nat :=
  match code with
  | 0x1 => some 9
  | 0x2 => some 0
  | 0x3 => some 7
  | 0x4 => some 1
  | 0x5 => some 1
  | 0x6 => some 1
  | 0x7 => some 1
  | 0x8 => some 0
  | 0x9 => some 0
  | 0xA => some 1
  | 0xB => some 0
  | 0xC => some 0
  | 0xD => some 0
  | _ => none

/-- R152, R159: the command that a command code and exactly its own operand octets make; none for an unknown code or
a wrong count. -/
def hostCommand (code : Nat) (operands : List Byte) : Option Instr :=
  match code, operands with
  | 0x1, [n, r, z, q, l, g, e, t, m] => some (.configure n r z q l g e t m)
  | 0x2, [] => some .start
  | 0x3, [k, m, c, a, b, d, e] => some (.submit k m c a b d e)
  | 0x4, [k] => some (.drop k)
  | 0x5, [k] => some (.clear k)
  | 0x6, [k] => some (.slot k)
  | 0x7, [z] => some (.zone z)
  | 0x8, [] => some .roster
  | 0x9, [] => some .attention
  | 0xA, [a] => some (.acknowledge a)
  | 0xB, [] => some .leave
  | 0xC, [] => some .restart
  | 0xD, [] => some .ident
  | _, _ => none

/-- R152: what a transaction amounts to, from the octets the host clocked in before CSN rose and the bits of an octet
left incomplete. A command is taken when the last operand octet it declares is complete; octets after it are ignored
(R151). A transaction whose CSN rises earlier is not taken. -/
def transactionCommand (octets : List Byte) (partialBits : List Bool) : Instr :=
  match octets with
  | [] => .transactionNotTaken [] partialBits
  | c :: rest =>
    if rest.length < declaredCount c then .transactionNotTaken (c :: rest) partialBits
    else (hostCommand (commandCode c) (rest.take (declaredCount c))).getD
      (.unknownCommand c (rest.take (declaredCount c)))

/-- R159: the octets by which the host sends a command; none for a command that is no complete transaction. -/
def hostOctets (i : Instr) : Option (List Byte) :=
  match i with
  | .configure n r z q l g e t m => some [0x19, n, r, z, q, l, g, e, t, m]
  | .start => some [0x20]
  | .submit k m c a b d e => some [0x37, k, m, c, a, b, d, e]
  | .drop k => some [0x41, k]
  | .clear k => some [0x51, k]
  | .slot k => some [0x61, k]
  | .zone z => some [0x71, z]
  | .roster => some [0x80]
  | .attention => some [0x90]
  | .acknowledge a => some [0xA1, a]
  | .leave => some [0xB0]
  | .restart => some [0xC0]
  | .ident => some [0xD0]
  | .unknownCommand c operands => some (c :: operands)
  | .transactionNotTaken _ _ => none
  | .coldReset => none
  | .resetnRelease _ => none
  | .frameStart _ => none
  | .keyMark _ => none
  | .arbitrationLoss => none
  | .bitError => none
  | .frameBrokenOff _ => none
  | .identityClash _ => none
  | .frameEnd _ => none
  | .stuck => none
  | .lineNormal => none
  | .frameAware => none
  | .roundGap => none
  | .peerLeaseReached _ => none
  | .ownPulseDeadlineReached => none
  | .fence => none
  | .censusWindowReached => none

end Sys2Proof
end

