-- ==== Sys2Proof/Config.lean ====
section
/-! DEFINITION. Config.lean: the fixed quantities of the part (spec/00_scope.md 1.6) and the sizes of its counters.
The spec leaves no value open that a command computes with, so no free value stands here. -/

namespace Sys2Proof.Config

/-- R2, R16: request records per table. -/
abbrev maxRecords : Nat := 48
/-- R4, R10: SHARED holders per zone. -/
abbrev maxHolders : Nat := 8
/-- R4, R18: waiters per zone. -/
abbrev maxWaiters : Nat := 8
/-- R170: the largest zone count START accepts; the table keeps this many zone entries. -/
abbrev zoneEntries : Nat := 64
/-- R29: station numbers a key can carry. -/
abbrev stationNumbers : Nat := 32
/-- R134: request slots. -/
abbrev slotCount : Nat := 8
/-- R125, R127: the settle gap in bit times. -/
abbrev settleGap : Nat := 12
/-- R117, R125: the round gap in bit times, at which quiet time stops rising. -/
abbrev roundGap : Nat := 40
/-- R126: REST bits that make a RECOVERING station frame-aware. -/
abbrev awareRun : Nat := 80
/-- R130: DRIVE bits that make the line STUCK. -/
abbrev stuckRun : Nat := 48
/-- R131: REST bits that return a STUCK line to NORMAL. -/
abbrev normalRun : Nat := 40
/-- R64: CLKIN cycles in one tick. -/
abbrev cyclesPerTick : Nat := 1600
/-- R122: samples in one bit time. -/
abbrev samplesPerBit : Nat := 16
/-- R122: the sample at which a bit is read. -/
abbrev readSample : Nat := 10
/-- R122: the place a mark edge gives the sample at which DRIVE was accepted. -/
abbrev edgeSample : Nat := 3
/-- R121: samples that accept a new level. -/
abbrev filterLength : Nat := 3
/-- R31, R36: the largest body length a length cell may carry. -/
abbrev maxBody : Nat := 40

/-- R120: the CLKIN divisor of the sample clock for a rate code. -/
def sampleDivisor (rate : BitVec 2) : Nat :=
  16 / 2 ^ rate.toNat

end Sys2Proof.Config
end

