-- ==== Sys2Proof/Machine/State.lean ====
section
/-! DEFINITION. Machine/State.lean: every piece of state the spec gives the station, block by block (spec/00_scope.md
1.3), the state after reset, and the reasons a step can stop. -/

namespace Sys2Proof.Machine

/-! ### Station control (10) -/

/-- R168: the station state. -/
inductive StationState where
  | config
  | listen
  | joining
  | syncing
  | synced
  | parked
  | halted
  deriving DecidableEq, Repr

/-- R170: the configuration set, each parameter stored as R155 says. -/
structure ConfigSet where
  station : Byte
  rosterSlots : Byte
  zoneCount : Byte
  rate : BitVec 2
  leaseCode : Byte
  guardCode : Byte
  evict : Byte
  retry : Byte
  mask : BitVec 7
  deriving DecidableEq, Repr

/-! ### The zone table and the census (01, 05) -/

/-- R1: the mode of a request. -/
inductive Mode where
  | shared
  | exclusive
  deriving DecidableEq, Repr

/-- R1: whether a record holds its zones or waits for them. -/
inductive Status where
  | waiting
  | granted
  deriving DecidableEq, Repr

/-- R1: a request in the table. -/
structure Record where
  owner : Nat
  tag : Nat
  mode : Mode
  zones : List Nat
  status : Status
  deriving DecidableEq, Repr

/-- A record as it stands in a zone entry: the fields that are fixed when it is created (R1). -/
structure RecordRef where
  owner : Nat
  tag : Nat
  mode : Mode
  deriving DecidableEq, Repr

/-- R4, R5: the holder list and the waiter queue of one zone, oldest first. -/
structure ZoneEntry where
  holders : List RecordRef
  waiters : List RecordRef
  deriving DecidableEq, Repr

/-- R2, R4, R8: the request list in taken order, one entry per zone number 0 to 63 (log 17), the sequence number. -/
structure Table where
  requests : List Record
  zones : List ZoneEntry
  sequence : Word16
  deriving DecidableEq, Repr

/-- R81, R25: the census state and the census staging list. The freeze is on exactly while the joiners set is not empty
(R81), so it is a view of this (log 16). -/
structure Census where
  joiners : StationSet
  passOver : StationSet
  progress : Nat
  runCount : Option Nat
  designated : Option Nat
  staging : List Record
  deriving DecidableEq, Repr

/-! ### The roster (03) -/

/-- R49: a member and its miss count, which exists while the member is in the roster. -/
structure Member where
  number : Nat
  misses : Nat
  deriving DecidableEq, Repr

/-- R49: the roster with its miss counts (ascending station numbers), the synced set, the clash latch. -/
structure RosterUnit where
  members : List Member
  synced : StationSet
  clash : Bool
  deriving DecidableEq, Repr

/-! ### The lease unit (04) -/

/-- Section 4.3 of 04: the three states of a timer; a running timer holds the tick boundaries still to come (R64). -/
inductive Timer where
  | inactive
  | running (ticks : Nat)
  | reached
  deriving DecidableEq, Repr

/-- R66: the lease kept for one peer. -/
structure Lease where
  peer : Nat
  timer : Timer
  deriving DecidableEq, Repr

/-- R65: the durations in ticks. -/
structure Durations where
  lease : Nat
  pulse : Nat
  guardMargin : Nat
  selfGuard : Nat
  window : Nat
  deriving DecidableEq, Repr

/-- R64 to R77: the time base, the durations (none until START) and the timers; a peer without an entry in `leases` has
an inactive lease. -/
structure LeaseUnit where
  divider : Nat
  ticks : Nat
  durations : Option Durations
  leases : List Lease
  pulse : Timer
  selfGuard : Timer
  window : Timer
  deriving DecidableEq, Repr

/-! ### The outbound set (06) -/

/-- R103: the kind of an entry with its argument. -/
inductive EntryKind where
  | expire (target : Nat)
  | leave
  | join (pass : Bool)
  | census (part : Nat)
  | drop (tag : Nat)
  | claim (tag : Nat)
  | pulse
  deriving DecidableEq, Repr

/-- R103, R109: an entry with its retry count, the mark that its frame is on the line, and the withdrawal that was
requested meanwhile. The entry order is the order of the list. -/
structure Entry where
  kind : EntryKind
  retries : Nat
  onLine : Bool
  withdrawn : Bool
  deriving DecidableEq, Repr

/-- R103, R108, R117: the entries, the spent flag, and the octets of the frame on the line. -/
structure Outbound where
  entries : List Entry
  spent : Bool
  sending : List Byte
  deriving DecidableEq, Repr

/-! ### The request slots (08) -/

/-- R134: the state of a slot. -/
inductive SlotState where
  | free
  | queued
  | waiting
  | granted
  | releasing
  | lost
  | refused
  deriving DecidableEq, Repr

/-- R134: the reasons of REFUSED and LOST. -/
inductive Reason where
  | recordsFull
  | queueFull
  | tagInUse
  | expired
  | fenced
  | out
  | restarted
  | left
  deriving DecidableEq, Repr

/-- R134: a request slot. Mode and zone set are present from SUBMIT until the slot is next FREE. -/
structure Slot where
  state : SlotState
  mode : Option Mode
  zones : List Nat
  reason : Option Reason
  changed : Bool
  dropWanted : Bool
  deriving DecidableEq, Repr

/-! ### Host port and attention (09) -/

/-- R160: the pending flag and the detail of a source. -/
structure Source where
  pending : Bool
  detail : Byte
  deriving DecidableEq, Repr

/-- R160: the six sources kept by the host port itself. -/
structure Attention where
  halt : Source
  out : Source
  line : Source
  state : Source
  roster : Source
  foreign : Source
  deriving DecidableEq, Repr

/-- R151 to R154: the transaction on the host port. -/
inductive Port where
  /-- CSN is high: no transaction. -/
  | idle
  /-- CSN is low and the command is not yet taken: the octets complete so far and the bits of the next, first first. -/
  | receiving (octets : List Byte) (bits : List Bool)
  /-- The command is taken, CSN is low: the kept response, and the falling edges of SCK since the taking. -/
  | kept (response : List Byte) (falls : Nat)
  /-- CSN was low when RESETN rose: the transaction is ignored until CSN rises (R154). -/
  | ignoring
  deriving DecidableEq, Repr

/-! ### The line unit and the frame checker (07, 02) -/

/-- R125: the tracking state; `none` before START and while the line is STUCK (R130). FRAME is kept in two parts:
`frame` up to the frame end and `ending` from there, sample 10 of its last bit, to the close of its last frame phase at
sample 16 (R124, log 9). -/
inductive Tracking where
  | none
  | recovering
  | quiet
  | frame
  | ending
  deriving DecidableEq, Repr

/-- R130: the line condition. -/
inductive LineCondition where
  | normal
  | stuck
  deriving DecidableEq, Repr

/-- R124, R34: the frame being received: the bits read since its key mark, the bits of the present cell, the octets,
a faulty end bit (R37), and the pictures sampled so far. -/
structure Rx where
  position : Nat
  cell : List Bool
  octets : List Byte
  endFault : Bool
  rollCall : StationSet
  verdict1 : Level
  verdict2 : Level
  standing : StationSet
  deriving DecidableEq, Repr

/-- R120 to R133: the line unit. `far` is the level the rest of the line shows (log 7). -/
structure LineUnit where
  sampling : Bool
  divider : Nat
  far : Level
  accepted : Level
  filterRun : Nat
  phase : Nat
  ltx : Level
  tracking : Tracking
  quiet : Nat
  recoverRun : Nat
  condition : LineCondition
  driveRun : Nat
  restRun : Nat
  rx : Option Rx
  deriving DecidableEq, Repr

/-- R34, R37: how a frame was received. -/
inductive Reception where
  | good
  | error
  deriving DecidableEq, Repr

/-- R39 to R41: the content rules a frame can break. -/
inductive Objection where
  | format
  | stranger
  | foreignJoin
  | frozenTable
  | wrongSender
  | wrongPart
  | wrongCount
  | wrongJoiners
  deriving DecidableEq, Repr

/-- R45: the outcome of a frame that reaches its frame end. -/
inductive Verdict where
  | taken
  | void
  deriving DecidableEq, Repr

/-- R34: the judgement of the frame on the line, each item present once it is set. The received octets and the pictures
it is formed from are those of the line unit's `Rx`. `abandoned` says that the station abandoned its own attempt on a bit
error in this frame (R38), which case 2 of R60 looks back on (log 35). -/
structure Judgement where
  reception : Option Reception
  objection : Option Objection
  foreign : Bool
  ack : Option Level
  void : Option Level
  outcome : Option Verdict
  abandoned : Bool
  deriving DecidableEq, Repr

/-! ### The station -/

/-- The whole station and the queue of waiting commands, first in first out. -/
structure State where
  station : StationState
  config : ConfigSet
  table : Table
  census : Census
  roster : RosterUnit
  lease : LeaseUnit
  outbound : Outbound
  slots : List Slot
  attention : Attention
  port : Port
  line : LineUnit
  judgement : Option Judgement
  resetnLow : Bool
  pending : List Instr
  deriving DecidableEq, Repr

/-- No command of the table stops the machine with a fault: the spec's error conditions are states and reports of the
station, which the meanings reach. -/
inductive Fault where
  deriving DecidableEq, Repr

/-- The reasons a step can refuse a command. -/
inductive Refusal where
  /-- Raised by exec for a command without a meaning; safe. No arm raises it. -/
  | notModelled (mnemonic : String)
  deriving DecidableEq, Repr

/-! ### Values after reset -/

/-- R170: the cold-reset values of the configuration set. -/
def ConfigSet.reset : ConfigSet :=
  { station := 0, rosterSlots := 32, zoneCount := 64, rate := 1, leaseCode := 10, guardCode := 2, evict := 3,
    retry := 6, mask := 0x7F }

/-- A zone with no holder and no waiter. -/
def ZoneEntry.empty : ZoneEntry :=
  { holders := [], waiters := [] }

/-- R27: the zone table after clearing. -/
def Table.cleared : Table :=
  { requests := [], zones := List.replicate Config.zoneEntries ZoneEntry.empty, sequence := 0 }

/-- R27, R81: the census state after clearing. -/
def Census.cleared : Census :=
  { joiners := [], passOver := [], progress := 0, runCount := none, designated := none, staging := [] }

/-- R50: the roster unit after cold reset, self-restart, RESTART and the own LEAVE taken. -/
def RosterUnit.cleared : RosterUnit :=
  { members := [], synced := [], clash := false }

/-- R77: the lease unit after cold reset. -/
def LeaseUnit.reset : LeaseUnit :=
  { divider := 0, ticks := 0, durations := none, leases := [], pulse := .inactive, selfGuard := .inactive,
    window := .inactive }

/-- R119: the outbound set after cold reset. -/
def Outbound.reset : Outbound :=
  { entries := [], spent := false, sending := [] }

/-- R134, R150: a slot in FREE with both flags clear. -/
def Slot.fresh : Slot :=
  { state := .free, mode := none, zones := [], reason := none, changed := false, dropWanted := false }

/-- R162: a source that is not pending has detail 0. -/
def Source.clear : Source :=
  { pending := false, detail := 0 }

/-- R167: no source pending. -/
def Attention.reset : Attention :=
  { halt := .clear, out := .clear, line := .clear, state := .clear, roster := .clear, foreign := .clear }

/-- R133: the line unit after cold reset. -/
def LineUnit.reset : LineUnit :=
  { sampling := false, divider := 0, far := .rest, accepted := .rest, filterRun := 0, phase := 0, ltx := .rest,
    tracking := .none, quiet := 0, recoverRun := 0, condition := .normal, driveRun := 0, restRun := 0, rx := none }

/-- R180: the station after a cold reset, RESETN released (log 2); no command waits. -/
def State.reset : State :=
  { station := .config, config := .reset, table := .cleared, census := .cleared, roster := .cleared, lease := .reset,
    outbound := .reset, slots := List.replicate Config.slotCount Slot.fresh, attention := .reset, port := .idle,
    line := .reset, judgement := none, resetnLow := false, pending := [] }

end Sys2Proof.Machine
end

