-- ==== Sys2Proof/Machine/Ops.lean ====
section
/-! DEFINITION. Machine/Ops.lean: the small operations the blocks share: fields of an octet, sets of station numbers,
one place of a list, the roster read as a set, and the durations. -/

namespace Sys2Proof.Machine

/-! ### Octets -/

/-- Bits `hi` down to `lo` of an octet, read as a number (R31). -/
def field (b : Byte) (hi lo : Nat) : Nat :=
  b.toNat / 2 ^ lo % 2 ^ (hi + 1 - lo)

/-- The octet that carries a number. -/
def octet (n : Nat) : Byte :=
  BitVec.ofNat 8 n

/-- The eight data bits of an octet, most significant first (R31, R123); a 1 is `true`. -/
def octetBits (b : Byte) : List Bool :=
  [b.getLsbD 7, b.getLsbD 6, b.getLsbD 5, b.getLsbD 4, b.getLsbD 3, b.getLsbD 2, b.getLsbD 1, b.getLsbD 0]

/-- The octet whose data bits, most significant first, are these (R123). -/
def octetOfBits (bits : List Bool) : Byte :=
  octet (bits.foldl (fun n b => 2 * n + b.toNat) 0)

/-- The two octets of a 16-bit number, high octet first (R31, R159). -/
def octetsOfWord (w : Word16) : List Byte :=
  [octet (w.toNat / 256), octet w.toNat]

/-- The 16-bit number of two octets, high octet first. -/
def wordOfOctets (high low : Byte) : Word16 :=
  BitVec.ofNat 16 (256 * high.toNat + low.toNat)

/-! ### Sets of station numbers -/

/-- The set of the station numbers, 0 to 31, that meet a test. -/
def setOf (test : Nat → Bool) : StationSet :=
  (List.range Config.stationNumbers).filter test

/-- The set with one number added. -/
def setInsert (k : Nat) (a : StationSet) : StationSet :=
  setOf fun i => i == k || a.contains i

/-- The numbers of either set. -/
def setUnion (a b : StationSet) : StationSet :=
  setOf fun i => a.contains i || b.contains i

/-- The numbers of both sets. -/
def setInter (a b : StationSet) : StationSet :=
  setOf fun i => a.contains i && b.contains i

/-- The numbers of the first set that are not in the second. -/
def setDiff (a b : StationSet) : StationSet :=
  setOf fun i => a.contains i && !b.contains i

/-- One octet of a station bitmap: stations `8 j` to `8 j + 7`, the lowest in bit 0 (R31, R159). -/
def bitmapOctet (a : StationSet) (j : Nat) : Byte :=
  octet ((List.range 8).foldl (fun n i => n + if a.contains (8 * j + i) then 2 ^ i else 0) 0)

/-- The four octets of a station bitmap (R31, R159). -/
def bitmapOctets (a : StationSet) : List Byte :=
  [bitmapOctet a 0, bitmapOctet a 1, bitmapOctet a 2, bitmapOctet a 3]

/-- The set a station bitmap shows. -/
def setOfBitmap (octets : List Byte) : StationSet :=
  setOf fun i => (octets.getD (i / 8) 0).getLsbD (i % 8)

/-! ### Lists -/

/-- The list with the element at one place replaced by its image; unchanged beyond the end. -/
def updateAt {α : Type} (k : Nat) (f : α → α) (l : List α) : List α :=
  l.modify k f

/-! ### The station's own numbers -/

/-- The station's own number (R170). -/
def State.own (s : State) : Nat :=
  s.config.station.toNat

/-- R170: roster slots R. -/
def State.rosterSlots (s : State) : Nat :=
  s.config.rosterSlots.toNat

/-- R170: zone count Z. -/
def State.zoneCount (s : State) : Nat :=
  s.config.zoneCount.toNat

/-- R170: eviction threshold E. -/
def State.evictAt (s : State) : Nat :=
  s.config.evict.toNat

/-- R170: retry limit T. -/
def State.retryLimit (s : State) : Nat :=
  s.config.retry.toNat

/-- R65: the durations of a configuration, in ticks. -/
def ConfigSet.durations (c : ConfigSet) : Durations :=
  { lease := 100 * c.leaseCode.toNat
    pulse := 25 * c.leaseCode.toNat
    guardMargin := 100 * c.guardCode.toNat
    selfGuard := 100 * (c.leaseCode.toNat - c.guardCode.toNat)
    window := 50 * c.leaseCode.toNat }

/-- The durations computed at START (R65); before START no timer is set, and the value here is not used. -/
def State.durations (s : State) : Durations :=
  s.lease.durations.getD { lease := 0, pulse := 0, guardMargin := 0, selfGuard := 0, window := 0 }

/-! ### The roster and the census read as sets -/

/-- R49: the roster as a set of station numbers. -/
def RosterUnit.roster (r : RosterUnit) : StationSet :=
  r.members.map Member.number

/-- R49: the miss count of a station number; 0 for a number outside the roster (R63). -/
def RosterUnit.missesOf (r : RosterUnit) (k : Nat) : Nat :=
  ((r.members.find? fun m => m.number == k).map Member.misses).getD 0

/-- Whether a station number is a member (R49). -/
def State.isMember (s : State) (k : Nat) : Bool :=
  s.roster.roster.contains k

/-- R81: the freeze is on exactly while the joiners set is not empty. -/
def Census.freeze (c : Census) : Bool :=
  !c.joiners.isEmpty

/-- R81: a census tracker is a station in SYNCED or SYNCING. -/
def StationState.tracksCensus (x : StationState) : Bool :=
  x == .synced || x == .syncing

/-- R168: the station drives the line only in JOINING, SYNCING or SYNCED. -/
def StationState.mayDrive (x : StationState) : Bool :=
  x == .joining || x == .syncing || x == .synced

/-- R8, R13: in SYNCED and HALTED the table kept is the live table. -/
def StationState.holdsTable (x : StationState) : Bool :=
  x == .synced || x == .halted

end Sys2Proof.Machine
end

