-- ==== Sys2Proof/Machine/Table.lean ====
section
/-! DEFINITION. Machine/Table.lean: the zone table's own operations (01): compatibility and grantability (R10), the
grant pass (R11), removal (R14), the placement of a CLAIM (R16 to R18), installation (R26). -/

namespace Sys2Proof.Machine

/-- R1: the fields of a record that a zone entry keeps. -/
def Record.ref (r : Record) : RecordRef :=
  { owner := r.owner, tag := r.tag, mode := r.mode }

/-- R1: the pair (owner, tag) identifies the record. -/
def RecordRef.same (a b : RecordRef) : Bool :=
  a.owner == b.owner && a.tag == b.tag

/-- The entry of a zone (section 1.2 of 01); empty for a number beyond the last entry. -/
def Table.zoneAt (t : Table) (z : Nat) : ZoneEntry :=
  t.zones.getD z ZoneEntry.empty

/-- The table with one zone's entry changed. -/
def Table.updateZone (t : Table) (z : Nat) (f : ZoneEntry → ZoneEntry) : Table :=
  { t with zones := updateAt z f t.zones }

/-- R3: the number of records a station number owns. -/
def Table.countOf (t : Table) (owner : Nat) : Nat :=
  (t.requests.filter fun r => r.owner == owner).length

/-- The record of an (owner, tag) pair, if one stands in the table (R1). -/
def Table.find (t : Table) (owner tag : Nat) : Option Record :=
  t.requests.find? fun r => r.owner == owner && r.tag == tag

/-- R10: a record of this mode is compatible with a zone's holders. -/
def ZoneEntry.compatible (z : ZoneEntry) (m : Mode) : Bool :=
  z.holders.isEmpty ||
    (m == .shared && (z.holders.all fun h => h.mode == .shared) && decide (z.holders.length < Config.maxHolders))

/-- R10: a record is grantable in zone z: it is the head of the waiter queue and compatible. -/
def Table.grantableIn (t : Table) (r : RecordRef) (z : Nat) : Bool :=
  (match (t.zoneAt z).waiters with
    | [] => false
    | head :: _ => head.same r) && (t.zoneAt z).compatible r.mode

/-- R10: a WAITING record is grantable when it is grantable in every zone of its set. -/
def Table.grantable (t : Table) (r : Record) : Bool :=
  r.status == .waiting && r.zones.all fun z => t.grantableIn r.ref z

/-- R11: in one zone of its set, a granted record leaves the waiter queue and joins the holders at the tail. -/
def ZoneEntry.grant (e : ZoneEntry) (r : RecordRef) : ZoneEntry :=
  { holders := e.holders ++ [r], waiters := e.waiters.filter fun w => !w.same r }

/-- R11: the grant of one record: in every zone of its set, and its status. -/
def Table.grant (t : Table) (r : Record) : Table :=
  { t with
    requests := t.requests.map fun q => if q.ref.same r.ref then { q with status := .granted } else q
    zones := (r.zones.foldl (fun u z => u.updateZone z fun e => e.grant r.ref) t).zones }

/-- R11: one visit of the grant pass. The second component lists the records granted so far. -/
def Table.visit (acc : Table × List RecordRef) (r : Record) : Table × List RecordRef :=
  if acc.1.grantable r then (acc.1.grant r, acc.2 ++ [r.ref]) else acc

/-- R11: the grant pass visits each WAITING record once, in request-list order, and grants those grantable when
visited. The records granted are listed in the order of their grants. -/
def Table.grantPass (t : Table) : Table × List RecordRef :=
  (t.requests.filter fun r => r.status == .waiting).foldl Table.visit (t, [])

/-- R14: removal of every record whose owner and tag meet a test, from the request list and from the zone entries. -/
def Table.remove (t : Table) (gone : Nat → Nat → Bool) : Table :=
  { t with
    requests := t.requests.filter fun r => !gone r.owner r.tag
    zones := t.zones.map fun e =>
      { holders := e.holders.filter fun h => !gone h.owner h.tag
        waiters := e.waiters.filter fun w => !gone w.owner w.tag } }

/-- R17: a record enters the holder list of a zone at the tail. -/
def ZoneEntry.addHolder (e : ZoneEntry) (r : RecordRef) : ZoneEntry :=
  { e with holders := e.holders ++ [r] }

/-- R18: a record enters the waiter queue of a zone at the tail. -/
def ZoneEntry.addWaiter (e : ZoneEntry) (r : RecordRef) : ZoneEntry :=
  { e with waiters := e.waiters ++ [r] }

/-- R6, R17, R18, R26: a record enters the request list at the end and, by its status, the holder lists or the waiter
queues of every zone of its set. -/
def Table.append (t : Table) (r : Record) : Table :=
  { t with
    requests := t.requests ++ [r]
    zones := (r.zones.foldl (fun u z => u.updateZone z fun e =>
      if r.status = .granted then e.addHolder r.ref else e.addWaiter r.ref) t).zones }

/-- R19: the outcome of a taken CLAIM. -/
inductive Placement where
  | granted
  | waiting
  | refused (reason : Reason)
  deriving DecidableEq, Repr

/-- R16 to R18: what becomes of a CLAIM against this table. The checks are made in the order of R16, then the immediate
grant of R17, then the queues of R18. -/
def Table.judgeClaim (t : Table) (owner tag : Nat) (m : Mode) (zones : List Nat) : Placement :=
  if (t.find owner tag).isSome then .refused .tagInUse
  else if Config.maxRecords ≤ t.requests.length then .refused .recordsFull
  else if zones.all (fun z => (t.zoneAt z).waiters.isEmpty && (t.zoneAt z).compatible m) then .granted
  else if zones.any (fun z => decide (Config.maxWaiters ≤ (t.zoneAt z).waiters.length)) then .refused .queueFull
  else .waiting

/-- R16 to R18: the table after a CLAIM: one record more, or the table as it was. -/
def Table.place (t : Table) (owner tag : Nat) (m : Mode) (zones : List Nat) : Table :=
  match t.judgeClaim owner tag m zones with
  | .granted => t.append { owner := owner, tag := tag, mode := m, zones := zones, status := .granted }
  | .waiting => t.append { owner := owner, tag := tag, mode := m, zones := zones, status := .waiting }
  | .refused _ => t

/-- R8: the sequence number steps by one, from 65535 to 0. -/
def Table.stepSequence (t : Table) : Table :=
  { t with sequence := t.sequence + 1 }

/-- R26: the table built from staged records in staged order, with the sequence number of the final part's header. -/
def Table.install (records : List Record) (sequence : Word16) : Table :=
  { (records.foldl Table.append Table.cleared) with sequence := sequence }

end Sys2Proof.Machine
end

