-- ==== Sys2Proof/Machine/Operands.lean ====
section
/-! DEFINITION. Machine/Operands.lean: what the octets of a frame and of a host command carry: the key (R29, R31), the
frame check (R32), the bodies of the kinds with their format checks (R31, R39), the cells of an own frame (R108), and
the operands of SUBMIT (R137). -/

namespace Sys2Proof.Machine

/-! ### The frame check (R32) -/

/-- R32: one bit through the check register, generator polynomial 0xC867. -/
def crcBit (reg : Word16) (bit : Bool) : Word16 :=
  if reg.msb != bit then (reg <<< 1) ^^^ 0xC867#16 else reg <<< 1

/-- R32: one octet, most significant bit first. -/
def crcOctet (reg : Word16) (b : Byte) : Word16 :=
  (octetBits b).foldl crcBit reg

/-- R32: the check over the key, length and body octets; the register starts at 0xFFFF. -/
def crc (octets : List Byte) : Word16 :=
  octets.foldl crcOctet 0xFFFF#16

end Sys2Proof.Machine

namespace Sys2Proof

open Machine

/-! ### The cells of a frame -/

/-- R31: the class, bits 7 to 5 of the key. -/
def FrameCells.frameClass (c : FrameCells) : Nat :=
  field c.key 7 5

/-- R31: the sender's station number, bits 4 to 0 of the key. -/
def FrameCells.sender (c : FrameCells) : Nat :=
  field c.key 4 0

/-- R32: the check received agrees with the octets received. -/
def FrameCells.crcAgrees (c : FrameCells) : Bool :=
  [c.crcHigh, c.crcLow] == octetsOfWord (crc (c.key :: c.length :: c.body))

/-- R37: the reception of a frame that was not broken off. -/
def FrameCells.reception (c : FrameCells) : Reception :=
  if c.endFault || !c.crcAgrees then .error else .good

end Sys2Proof

namespace Sys2Proof.Machine

/-! ### What a frame carries (R31, R39) -/

/-- R31: the fields of a CENSUS part. -/
structure Part where
  sequence : Word16
  index : Nat
  count : Nat
  joiners : StationSet
  records : List Record
  deriving DecidableEq, Repr

/-- R29: the content of a frame, by kind. -/
inductive Frame where
  | expire (target : Nat)
  | leave
  | join (pass : Bool)
  | census (part : Part)
  | drop (tag : Nat)
  | claim (tag : Nat) (mode : Mode) (zones : List Nat)
  | pulse
  deriving DecidableEq, Repr

/-- R31: the mode bit of a CLAIM body or a CENSUS record. -/
def modeOfBit (n : Nat) : Mode :=
  if n = 0 then .shared else .exclusive

/-- R39: between 1 and 4 zones, every one below Z, none named twice. -/
def zonesFit (zoneCount : Nat) (zones : List Nat) : Bool :=
  decide (1 ≤ zones.length ∧ zones.length ≤ 4) && zones.all (fun z => decide (z < zoneCount)) && decide zones.Nodup

/-- R39: the EXPIRE body: one octet, zero bits zero, target below R. -/
def parseExpire (rosterSlots : Nat) (body : List Byte) : Option Frame :=
  match body with
  | [b] => if field b 7 5 = 0 ∧ field b 4 0 < rosterSlots then some (.expire (field b 4 0)) else none
  | _ => none

/-- R39: the JOIN body: five octets, each field in its range, zero bits zero. The fingerprint is judged against the
station's own by `fingerprintDiffers`. -/
def parseJoin (body : List Byte) : Option Frame :=
  match body with
  | [r, z, q, l, p] =>
    if (4 ≤ r.toNat ∧ r.toNat ≤ 32) ∧ (8 ≤ z.toNat ∧ z.toNat ≤ 64) ∧ (2 ≤ field q 3 0 ∧ field q 3 0 ≤ 8) ∧
        field q 5 4 = 0 ∧ 2 ≤ l.toNat ∧ field p 7 1 = 0 then
      some (.join (p.getLsbD 0))
    else none
  | _ => none

/-- R39: one CENSUS record from its six octets: owner below R, zone count 1 to 4, the counted zones below Z and distinct,
the unused octets 0xFF, zero bits zero. -/
def parseRecord (rosterSlots zoneCount : Nat) (octets : List Byte) : Option Record :=
  match octets with
  | [a, b, z1, z2, z3, z4] =>
    let zones := ([z1, z2, z3, z4].take (field b 2 0)).map BitVec.toNat
    if field a 7 3 < rosterSlots ∧ field b 5 3 = 0 ∧ field b 2 0 ≤ 4 ∧ zonesFit zoneCount zones = true ∧
        ([z1, z2, z3, z4].drop (field b 2 0)).all (fun z => z == 0xFF#8) = true then
      some { owner := field a 7 3, tag := field a 2 0, mode := modeOfBit (field b 7 7), zones := zones,
             status := if field b 6 6 = 0 then .waiting else .granted }
    else none
  | _ => none

/-- R31, R39: the records of a CENSUS part: exactly six octets each. -/
def parseRecords (rosterSlots zoneCount : Nat) (n : Nat) (octets : List Byte) : Option (List Record) :=
  match n with
  | 0 => if octets.isEmpty then some [] else none
  | n + 1 => do
    let r ← parseRecord rosterSlots zoneCount (octets.take 6)
    let rest ← parseRecords rosterSlots zoneCount n (octets.drop 6)
    return r :: rest

/-- R39: the shape of a census: part count 1 to 12, index below it, 4 records in a part that is not the last, 1 to 4 in
the last unless it is the only one. -/
def partShape (index count records : Nat) : Bool :=
  decide (1 ≤ count ∧ count ≤ 12 ∧ index < count ∧ records ≤ 4 ∧
    (index + 1 < count → records = 4) ∧ (index + 1 = count → count ≠ 1 → 1 ≤ records))

/-- R39: the CENSUS body. -/
def parseCensus (rosterSlots zoneCount : Nat) (body : List Byte) : Option Frame :=
  match body with
  | s1 :: s2 :: i :: c :: n :: j1 :: j2 :: j3 :: j4 :: rest =>
    let joiners := setOfBitmap [j1, j2, j3, j4]
    if partShape i.toNat c.toNat n.toNat = true ∧ joiners.all (fun k => decide (k < rosterSlots)) = true then
      (parseRecords rosterSlots zoneCount n.toNat rest).map fun records =>
        .census { sequence := wordOfOctets s1 s2, index := i.toNat, count := c.toNat, joiners := joiners,
                  records := records }
    else none
  | _ => none

/-- R39: the DROP body: one octet, zero bits zero. -/
def parseDrop (body : List Byte) : Option Frame :=
  match body with
  | [b] => if field b 7 3 = 0 then some (.drop (field b 2 0)) else none
  | _ => none

/-- R39: the CLAIM body: 2 octets and as many zones as octet 2 says. -/
def parseClaim (zoneCount : Nat) (body : List Byte) : Option Frame :=
  match body with
  | a :: c :: rest =>
    if field a 6 3 = 0 ∧ rest.length = c.toNat ∧ zonesFit zoneCount (rest.map BitVec.toNat) = true then
      some (.claim (field a 2 0) (modeOfBit (field a 7 7)) (rest.map BitVec.toNat))
    else none
  | _ => none

/-- R39: the content of a frame by its class and body, judged with this station's R and Z; none is a format
objection. -/
def parseFrame (rosterSlots zoneCount frameClass : Nat) (body : List Byte) : Option Frame :=
  match frameClass with
  | 0 => parseExpire rosterSlots body
  | 1 => if body.isEmpty then some .leave else none
  | 2 => parseJoin body
  | 3 => parseCensus rosterSlots zoneCount body
  | 4 => parseDrop body
  | 5 => parseClaim zoneCount body
  | 6 => if body.isEmpty then some .pulse else none
  | _ => none

/-! ### Own frames (R31, R88, R108) -/

/-- R29, R103: the class of an entry's frame. -/
def EntryKind.frameClass (k : EntryKind) : Nat :=
  match k with
  | .expire _ => 0
  | .leave => 1
  | .join _ => 2
  | .census _ => 3
  | .drop _ => 4
  | .claim _ => 5
  | .pulse => 6

/-- R31: the key octet of a class and a station number. -/
def keyOctet (frameClass station : Nat) : Byte :=
  octet (32 * frameClass + station % 32)

/-- R31: the mode as a bit. -/
def Mode.bit (m : Mode) : Nat :=
  match m with
  | .shared => 0
  | .exclusive => 1

/-- R31: the status as a bit. -/
def Status.bit (x : Status) : Nat :=
  match x with
  | .waiting => 0
  | .granted => 1

/-- R31: the six octets of a CENSUS record. -/
def recordOctets (r : Record) : List Byte :=
  [octet (8 * r.owner + r.tag), octet (128 * r.mode.bit + 64 * r.status.bit + r.zones.length)] ++
    (r.zones.map octet ++ [0xFF#8, 0xFF#8, 0xFF#8, 0xFF#8]).take 4

/-- R88: the number of parts of a census of this table. -/
def partCount (records : Nat) : Nat :=
  max 1 ((records + 3) / 4)

/-- R88: the records a part carries. -/
def partRecords (requests : List Record) (index : Nat) : List Record :=
  (requests.drop (4 * index)).take 4

/-- R88: the body of a CENSUS part, assembled from the sender's state at that moment. -/
def State.censusBody (s : State) (index : Nat) : List Byte :=
  let records := partRecords s.table.requests index
  octetsOfWord (if s.station = .synced then s.table.sequence + 1 else 0) ++
    [octet index, octet (partCount s.table.requests.length), octet records.length] ++
    bitmapOctets s.census.joiners ++ (records.map recordOctets).flatten

/-- R31, R79, R94: the JOIN body: the station's fingerprint and PASS. -/
def ConfigSet.joinBody (c : ConfigSet) (pass : Bool) : List Byte :=
  [c.rosterSlots, c.zoneCount, octet (64 * c.rate.toNat + c.evict.toNat), c.leaseCode, octet pass.toNat]

/-- R31, R108: the CLAIM body from the tag and the mode and zone set held in the slot. -/
def claimBody (tag : Nat) (slot : Slot) : List Byte :=
  [octet (128 * (slot.mode.getD .shared).bit + tag), octet slot.zones.length] ++ slot.zones.map octet

/-- The slot of a number (R134); a fresh slot beyond the eight. -/
def State.slotAt (s : State) (k : Nat) : Slot :=
  s.slots.getD k Slot.fresh

/-- R108: the body of an entry's frame. -/
def State.bodyOf (s : State) (k : EntryKind) : List Byte :=
  match k with
  | .expire target => [octet target]
  | .leave => []
  | .join pass => s.config.joinBody pass
  | .census part => s.censusBody part
  | .drop tag => [octet tag]
  | .claim tag => claimBody tag (s.slotAt tag)
  | .pulse => []

/-- R31, R32: the octets of a whole frame: key, length, body and check. -/
def frameOctets (key : Byte) (body : List Byte) : List Byte :=
  let octets := key :: octet body.length :: body
  octets ++ octetsOfWord (crc octets)

/-- R108: the frame fixed for an entry when it is chosen. -/
def State.frameOf (s : State) (k : EntryKind) : List Byte :=
  frameOctets (keyOctet k.frameClass s.own) (s.bodyOf k)

/-- R40: the fingerprint in a JOIN body of five octets differs from the station's own configuration. PASS is not part
of it. -/
def ConfigSet.fingerprintDiffers (c : ConfigSet) (body : List Byte) : Bool :=
  match body with
  | [r, z, q, l, _] =>
    r != c.rosterSlots || z != c.zoneCount || field q 7 6 != c.rate.toNat || field q 3 0 != c.evict.toNat ||
      l != c.leaseCode
  | _ => false

/-! ### The operands of SUBMIT (R137) -/

/-- R137, R159: the mode octet of SUBMIT; none for an octet that is neither SHARED nor EXCLUSIVE. -/
def modeOfOctet (b : Byte) : Option Mode :=
  if b = 0 then some .shared else if b = 1 then some .exclusive else none

/-- R137, R159: the zones a SUBMIT carries: the first zone-count octets of the four. -/
def submitZones (count zone1 zone2 zone3 zone4 : Byte) : List Nat :=
  ([zone1, zone2, zone3, zone4].take count.toNat).map BitVec.toNat

/-- R137 check 4: the mode and zone set of an acceptable SUBMIT; none where the check fails. -/
def submitRequest (zoneCount : Nat) (mode count zone1 zone2 zone3 zone4 : Byte) : Option (Mode × List Nat) :=
  let zones := submitZones count zone1 zone2 zone3 zone4
  match modeOfOctet mode with
  | none => none
  | some m =>
    if (1 ≤ count.toNat ∧ count.toNat ≤ 4) ∧ zonesFit zoneCount zones = true then some (m, zones) else none

end Sys2Proof.Machine
end

