-- ==== Sys2Proof/Machine/Flags.lean ====
section
/-! DEFINITION. Machine/Flags.lean: the attention sources (R160 to R164), the mask and ATN (R166), and the codes of the
response octets (R159). -/

namespace Sys2Proof.Machine

/-! ### Codes (R159) -/

/-- R159: the station state codes. -/
def StationState.code (x : StationState) : Byte :=
  match x with
  | .config => 0
  | .listen => 1
  | .joining => 2
  | .syncing => 3
  | .synced => 4
  | .parked => 5
  | .halted => 6

/-- R159: the slot state codes. -/
def SlotState.code (x : SlotState) : Byte :=
  match x with
  | .free => 0
  | .queued => 1
  | .waiting => 2
  | .granted => 3
  | .releasing => 4
  | .lost => 5
  | .refused => 6

/-- R159: the reason codes; 0 for none. -/
def reasonCode (x : Option Reason) : Byte :=
  match x with
  | none => 0
  | some .recordsFull => 1
  | some .queueFull => 2
  | some .tagInUse => 3
  | some .expired => 4
  | some .fenced => 5
  | some .out => 6
  | some .restarted => 7
  | some .left => 8

/-- R158: the status a command is answered. -/
inductive Answer where
  | ok
  | busy
  | nothing
  | already
  | linked
  | badRequest
  | wrongState
  | badConfig
  | unknown
  deriving DecidableEq, Repr

/-- R159: the status codes. -/
def Answer.code (x : Answer) : Byte :=
  match x with
  | .ok => 1
  | .busy => 2
  | .nothing => 3
  | .already => 4
  | .linked => 5
  | .badRequest => 6
  | .wrongState => 7
  | .badConfig => 8
  | .unknown => 9

/-- R161, R177: why a station halts. -/
inductive HaltCause where
  | clash
  | joinFailed
  deriving DecidableEq, Repr

/-- R159: the HALT detail. -/
def HaltCause.code (x : HaltCause) : Byte :=
  match x with
  | .clash => 1
  | .joinFailed => 2

/-- R161, R173: why a station self-restarts. -/
inductive OutCause where
  | ownMisses
  | retries
  deriving DecidableEq, Repr

/-- R159: the OUT detail. -/
def OutCause.code (x : OutCause) : Byte :=
  match x with
  | .ownMisses => 1
  | .retries => 2

/-- R159: the LINE detail. -/
def LineCondition.code (x : LineCondition) : Byte :=
  match x with
  | .normal => 0
  | .stuck => 1

/-! ### Raising and clearing -/

/-- R161: a raised source is pending with the new detail, whatever it held. -/
def Source.raised (detail : Byte) : Source :=
  { pending := true, detail := detail }

/-- R177: HALT raised with its cause. -/
def State.raiseHalt (c : HaltCause) (s : State) : State :=
  { s with attention := { s.attention with halt := .raised c.code } }

/-- R173: OUT raised with its cause. -/
def State.raiseOut (c : OutCause) (s : State) : State :=
  { s with attention := { s.attention with out := .raised c.code } }

/-- R132: LINE raised with the line condition as it now stands. -/
def State.raiseLine (s : State) : State :=
  { s with attention := { s.attention with line := .raised s.line.condition.code } }

/-- R169: STATE raised with the station state as it now stands. -/
def State.raiseState (s : State) : State :=
  { s with attention := { s.attention with state := .raised s.station.code } }

/-- R62: ROSTER raised with a station number. -/
def State.raiseRoster (k : Nat) (s : State) : State :=
  { s with attention := { s.attention with roster := .raised (octet k) } }

/-- R63: FOREIGN raised with the sender's station number. -/
def State.raiseForeign (k : Nat) (s : State) : State :=
  { s with attention := { s.attention with foreign := .raised (octet k) } }

/-- R159, R165: the host port's own source of a code: 1 to 4, 13 and 14. -/
def Attention.source (a : Attention) (code : Nat) : Option Source :=
  match code with
  | 1 => some a.halt
  | 2 => some a.out
  | 3 => some a.line
  | 4 => some a.state
  | 13 => some a.roster
  | 14 => some a.foreign
  | _ => none

/-- R162: clearing a source of the host port resets its flag and its detail. -/
def Attention.acknowledged (a : Attention) (code : Nat) : Attention :=
  match code with
  | 1 => { a with halt := .clear }
  | 2 => { a with out := .clear }
  | 3 => { a with line := .clear }
  | 4 => { a with state := .clear }
  | 13 => { a with roster := .clear }
  | 14 => { a with foreign := .clear }
  | _ => a

/-! ### The pending set and ATN -/

/-- R160, R163: whether the source of a code is pending; SLOTk, code 5 + k, is pending while slot k's changed flag is
set. -/
def State.sourcePending (s : State) (code : Nat) : Bool :=
  match s.attention.source code with
  | some x => x.pending
  | none => decide (5 ≤ code ∧ code ≤ 12) && (s.slotAt (code - 5)).changed

/-- R160: the detail of a source: the stored one, or the slot's state code as it stands when read. -/
def State.sourceDetail (s : State) (code : Nat) : Byte :=
  match s.attention.source code with
  | some x => x.detail
  | none => (s.slotAt (code - 5)).state.code

/-- R159: the source codes, highest priority first (R163). -/
def sourceCodes : List Nat :=
  [1, 2, 3, 4, 5, 6, 7, 8, 9, 10, 11, 12, 13, 14]

/-- R163: the highest pending source is the pending one of lowest code, whatever the mask. -/
def State.highestPending (s : State) : Option Nat :=
  sourceCodes.find? s.sourcePending

/-- R159, R164: the pending set: bit n is set for source code n + 1. -/
def State.pendingWord (s : State) : Word16 :=
  BitVec.ofNat 16 (sourceCodes.foldl (fun n c => n + if s.sourcePending c then 2 ^ (c - 1) else 0) 0)

/-- R166: the mask bit of a source's group. -/
def groupBit (code : Nat) : Nat :=
  if code ≤ 4 then code - 1 else if code ≤ 12 then 4 else code - 8

/-- R154, R166, R179: ATN is driven low while a pending source belongs to an enabled group, and released otherwise and
while RESETN is low. -/
def State.atnLow (s : State) : Bool :=
  !s.resetnLow && sourceCodes.any fun c => s.sourcePending c && s.config.mask.getLsbD (groupBit c)

/-! ### Slots (R135) -/

/-- The state with one slot changed. -/
def State.updateSlot (k : Nat) (f : Slot → Slot) (s : State) : State :=
  { s with slots := updateAt k f s.slots }

/-- R134, R135: a slot takes a state and a reason. The changed flag is set where either differs from before; a slot that
becomes FREE loses its mode, zone set and reason. Drop-wanted is set only in QUEUED with the CLAIM on the line, so a
slot that changes has it clear. -/
def Slot.become (x : SlotState) (reason : Option Reason) (b : Slot) : Slot :=
  { state := x
    mode := if x = .free then none else b.mode
    zones := if x = .free then [] else b.zones
    reason := reason
    changed := b.changed || x != b.state || reason != b.reason
    dropWanted := false }

end Sys2Proof.Machine
end

