-- ==== Sys2Proof/Machine/Outbound.lean ====
section
/-! DEFINITION. Machine/Outbound.lean: the outbound set (06): requests (R104), withdrawal (R109, R118), eligibility
(R105, R106), choice (R107), the frame on the line and how an attempt ends (R110 to R114), the entries kept (R119). -/

namespace Sys2Proof.Machine

/-! ### Entries -/

/-- R104: a new entry starts with retry count 0. -/
def Entry.fresh (k : EntryKind) : Entry :=
  { kind := k, retries := 0, onLine := false, withdrawn := false }

/-- R104: whether a held entry answers a request: the same kind and argument, or only the kind for LEAVE, JOIN, CENSUS
and PULSE. -/
def EntryKind.answers (held wanted : EntryKind) : Bool :=
  match held, wanted with
  | .join _, .join _ => true
  | .census _, .census _ => true
  | a, b => a == b

/-- Whether an entry that answers a kind is held (R104). -/
def Outbound.holds (o : Outbound) (k : EntryKind) : Bool :=
  o.entries.any fun e => e.kind.answers k

/-- R104: an entry is made last in the entry order, unless one that answers the request is held. -/
def Outbound.request (o : Outbound) (k : EntryKind) : Outbound :=
  if o.holds k then o else { o with entries := o.entries ++ [Entry.fresh k] }

/-- R118: every entry whose kind meets a test is removed, its retry count with it, and with the entry on the line its
frame. -/
def Outbound.discard (o : Outbound) (gone : EntryKind → Bool) : Outbound :=
  { o with
    entries := o.entries.filter fun e => !gone e.kind
    sending := if o.entries.any fun e => e.onLine && !gone e.kind then o.sending else [] }

/-- R109, R118: a withdrawal requested between frame ends. A held entry is removed at once; the entry on the line keeps
the request until its outcome. -/
def Outbound.withdraw (o : Outbound) (k : EntryKind) : Outbound :=
  { o with entries := (o.entries.filter fun e => !(e.kind == k && !e.onLine)).map fun e =>
      if e.kind = k then { e with withdrawn := true } else e }

/-- R103: the entry whose frame is on the line. -/
def Outbound.onLine (o : Outbound) : Option Entry :=
  o.entries.find? fun e => e.onLine

/-- Requests an entry (R104). -/
def State.request (k : EntryKind) (s : State) : State :=
  { s with outbound := s.outbound.request k }

/-- Discards the entries of some kinds (R118). -/
def State.discard (gone : EntryKind → Bool) (s : State) : State :=
  { s with outbound := s.outbound.discard gone }

/-- Whether a kind is JOIN. -/
def EntryKind.isJoin (k : EntryKind) : Bool :=
  match k with
  | .join _ => true
  | _ => false

/-- Whether a kind is CENSUS. -/
def EntryKind.isCensus (k : EntryKind) : Bool :=
  match k with
  | .census _ => true
  | _ => false

/-! ### Eligibility and choice -/

/-- R105: the condition of each kind. -/
def State.kindEligible (s : State) (k : EntryKind) : Bool :=
  match k with
  | .expire _ => s.station == .synced && !s.census.freeze
  | .leave => s.station == .synced && !s.census.freeze
  | .join _ => s.station == .joining || s.station == .syncing
  | .census _ => s.station.tracksCensus && s.census.designated == some s.own && s.census.freeze
  | .drop _ => s.station == .synced && !s.census.freeze && !s.outbound.spent
  | .claim _ => s.station == .synced && !s.census.freeze && !s.outbound.spent
  | .pulse => s.station == .synced && !s.outbound.spent

/-- R106: the station-wide condition. -/
def State.mayOffer (s : State) : Bool :=
  s.station.mayDrive && s.line.condition == .normal && s.line.tracking != .recovering &&
    s.line.tracking != .none && s.outbound.onLine.isNone

/-- R105, R106: an entry is eligible. -/
def State.eligible (s : State) (e : Entry) : Bool :=
  s.mayOffer && s.kindEligible e.kind

/-- R107: the target of an EXPIRE entry; the other kinds are not ordered by it. -/
def EntryKind.target (k : EntryKind) : Nat :=
  match k with
  | .expire target => target
  | _ => 0

/-- R107: the first entry is chosen rather than one later in the entry order: its class is lower, or the same and its
EXPIRE target no higher. -/
def EntryKind.precedes (a b : EntryKind) : Bool :=
  decide (a.frameClass < b.frameClass) || (a.frameClass == b.frameClass && decide (a.target ≤ b.target))

/-- R107: the entry of the lowest class, among EXPIRE entries of the lowest target, else first in entry order. -/
def chooseEntry (entries : List Entry) : Option Entry :=
  match entries with
  | [] => none
  | e :: rest =>
    match chooseEntry rest with
    | none => some e
    | some b => if e.kind.precedes b.kind then some e else some b

/-- R107: the entry the outbound set answers the line unit with. -/
def State.chosen (s : State) : Option Entry :=
  chooseEntry (s.outbound.entries.filter s.eligible)

/-- R107, R108, R127: the line unit asks for a frame. The chosen entry's whole frame is fixed, the entry is on the line
and the station drives the key mark; with no eligible entry nothing happens. -/
def State.ask (s : State) : State :=
  match s.chosen with
  | none => s
  | some e =>
    { s with
      outbound := { s.outbound with
        entries := s.outbound.entries.map fun x => if x.kind = e.kind then { x with onLine := true } else x
        sending := s.frameOf e.kind }
      line := { s.line with ltx := .drive } }

/-! ### How an attempt ends -/

/-- The slot a CLAIM entry stands for. -/
def EntryKind.claimTag (k : EntryKind) : Option Nat :=
  match k with
  | .claim tag => some tag
  | _ => none

/-- R141: a drop-wanted slot is settled to FREE at an outcome of its CLAIM that places no record. -/
def State.settleDropWanted (k : EntryKind) (s : State) : State :=
  match k.claimTag with
  | none => s
  | some tag => if (s.slotAt tag).dropWanted then s.updateSlot tag (Slot.become .free none) else s

/-- R110, R112, R113: an attempt ends without being TAKEN. An entry whose withdrawal was requested goes, uncounted, and
its drop-wanted slot becomes FREE; any other entry returns to the held entries in its place, its retry count raised by 1
where the failure counts. -/
def State.endAttempt (counted : Bool) (s : State) : State :=
  match s.outbound.onLine with
  | none => s
  | some e =>
    if e.withdrawn then
      ({ s with outbound := { s.outbound with
          entries := s.outbound.entries.filter fun x => !x.onLine
          sending := [] } }).settleDropWanted e.kind
    else
      { s with outbound := { s.outbound with
          entries := s.outbound.entries.map fun x =>
            if x.onLine then { x with onLine := false, retries := x.retries + counted.toNat } else x
          sending := [] } }

/-- R111: the entry of an own TAKEN frame is removed, and a frame of class 4 to 6 sets the spent flag. -/
def State.takeEntry (s : State) : State :=
  match s.outbound.onLine with
  | none => s
  | some e =>
    { s with outbound :=
        { entries := s.outbound.entries.filter fun x => !x.onLine
          spent := s.outbound.spent || decide (4 ≤ e.kind.frameClass)
          sending := [] } }

/-- R114: an entry whose retry count has come to T. -/
def State.exhausted (s : State) : Option Entry :=
  s.outbound.entries.find? fun e => decide (s.retryLimit ≤ e.retries)

/-! ### Entries kept through a clearing (R119) -/

/-- R119: the CLAIM entries of QUEUED slots keep their order, with counts 0; every other entry is withdrawn and the
spent flag cleared. -/
def State.keepClaims (s : State) : State :=
  { s with outbound :=
      { entries := (s.outbound.entries.filter fun e =>
            match e.kind.claimTag with
            | none => false
            | some tag => (s.slotAt tag).state == .queued).map fun e => Entry.fresh e.kind
        spent := false
        sending := [] } }

end Sys2Proof.Machine
end

