-- ==== Sys2Proof/Machine/Judge.lean ====
section
/-! DEFINITION. Machine/Judge.lean: the frame checker (02): objections (R39 to R41), the ack (R42), the roll-call
judgement (R43), the void (R44), the outcome (R45), the standing mark (R46), the identity clash (R60). -/

namespace Sys2Proof

/-- R45: TAKEN when both verdict samples are REST. -/
def FrameObs.taken (o : FrameObs) : Bool :=
  o.verdict1 == .rest && o.verdict2 == .rest

end Sys2Proof

namespace Sys2Proof.Machine

/-- R35: the states in which a judgement is opened. -/
def StationState.opensJudgement (x : StationState) : Bool :=
  x == .joining || x == .syncing || x == .synced || x == .halted

/-- R35: a station in SYNCED or SYNCING judges content, as a member. -/
def State.judgesContent (s : State) : Bool :=
  s.station.tracksCensus

/-- The content of a frame as this station's configuration reads it (R39). -/
def State.parse (s : State) (c : FrameCells) : Option Frame :=
  parseFrame s.rosterSlots s.zoneCount c.frameClass c.body

/-- R128: a bit of this key that was sent as REST is read as DRIVE, and the sender has lost arbitration. -/
def losesKey (sent read : Byte) : Bool :=
  sent &&& ~~~read != 0

/-- R47, R109, R128, R129: the frame is this station's own attempt, not lost and not abandoned: an entry is on the line,
and the key read shows no lost arbitration. A driven key bit read REST ends no attempt. -/
def State.ownAttempt (s : State) (c : FrameCells) : Bool :=
  match s.outbound.onLine with
  | none => false
  | some e => !losesKey (keyOctet e.kind.frameClass s.own) c.key

/-- R38: the station abandoned its own attempt on a bit error in the frame on the line. -/
def State.gaveUpAttempt (s : State) : Bool :=
  s.judgement.any Judgement.abandoned

/-- R40: the JOIN is foreign to this station: it is received GOOD with a body of five octets, and its fingerprint
differs or its sender number is R or above. -/
def State.foreignJoin (s : State) (c : FrameCells) : Bool :=
  s.judgesContent && c.reception == .good && c.frameClass == 2 && c.body.length == 5 &&
    (s.config.fingerprintDiffers c.body || decide (s.rosterSlots ≤ c.sender))

/-- R41: the census objections to a CENSUS part from the designated sender, in the order of the rule. -/
def State.partObjection (s : State) (p : Part) : Option Objection :=
  if p.index ≠ s.census.progress then some .wrongPart
  else if 0 < p.index ∧ s.census.runCount ≠ some p.count then some .wrongCount
  else if p.joiners ≠ s.census.joiners then some .wrongJoiners
  else none

/-- R41: the census objection to a frame of this content from this sender. -/
def State.censusObjection (s : State) (sender : Nat) (f : Frame) : Option Objection :=
  match f with
  | .expire _ => if s.census.freeze then some .frozenTable else none
  | .leave => if s.census.freeze then some .frozenTable else none
  | .drop _ => if s.census.freeze then some .frozenTable else none
  | .claim _ _ _ => if s.census.freeze then some .frozenTable else none
  | .census p => if s.census.designated ≠ some sender then some .wrongSender else s.partObjection p
  | .join _ => none
  | .pulse => none

/-- R34, R39 to R41: the first content rule that a frame breaks at this station; none for a frame not received GOOD and
at a station that judges no content. -/
def State.objection (s : State) (c : FrameCells) : Option Objection :=
  if s.judgesContent = false ∨ c.reception = .error then none
  else
    match s.parse c with
    | none => some .format
    | some f =>
      if s.isMember c.sender = false ∧ c.frameClass ≠ 2 then some .stranger
      else if s.foreignJoin c then some .foreignJoin
      else s.censusObjection c.sender f

/-- R42: what this station drives in its own roll-call slot. A member acks a frame received GOOD; a sender whose attempt
stands drives its slot, member or not; every other station rests. -/
def State.ack (s : State) (c : FrameCells) : Level :=
  if s.line.condition = .normal ∧ c.reception = .good ∧
      (s.judgesContent = true ∨ (s.station = .joining ∧ s.ownAttempt c = true)) then .drive
  else .rest

/-- R43: a member finds the roll-call incomplete when some member's slot was sampled REST. -/
def State.incomplete (s : State) (rollCall : StationSet) : Bool :=
  s.roster.roster.any fun k => !rollCall.contains k

/-- R44: what this station drives in both verdict bits. -/
def State.void (s : State) (c : FrameCells) (rollCall : StationSet) : Level :=
  if s.line.condition = .normal ∧ s.judgesContent = true ∧
      (c.reception = .error ∨ s.incomplete rollCall = true ∨ (s.objection c).isSome = true) then .drive
  else .rest

/-- R46: what this station drives in its own standing slot of a JOIN. -/
def State.stand (s : State) : Level :=
  if s.line.condition = .normal ∧ s.station = .synced then .drive else .rest

/-- R60, R113: a frame that is not the own attempt is received GOOD, and it bears the station's own number, or the station
abandoned its own attempt on a bit error in it. -/
def State.clashes (s : State) (c : FrameCells) : Bool :=
  s.station.mayDrive && c.reception == .good && !s.ownAttempt c && (c.sender == s.own || s.gaveUpAttempt)

/-- R34: a judgement just opened. -/
def Judgement.opened : Judgement :=
  { reception := none, objection := none, foreign := false, ack := none, void := none, outcome := none,
    abandoned := false }

/-- R34: a judgement with the items set by the end of the second CRC cell. -/
def State.judgeContent (s : State) (c : FrameCells) (j : Judgement) : Judgement :=
  { j with reception := some c.reception, objection := s.objection c, foreign := s.foreignJoin c, ack := some (s.ack c) }

end Sys2Proof.Machine
end

