-- ==== Sys2Proof/Machine/Station.lean ====
section
/-! DEFINITION. Machine/Station.lean: the changes of the whole station: clearing (R27, R50, R77), the settlement of the
slots (R145), self-restart (R173, R174), HALTED (R177), exhaustion (R114 to R116). -/

namespace Sys2Proof.Machine

/-- R27, R50: the table, the census state and the roster unit are cleared. -/
def State.clearCell (s : State) : State :=
  { s with table := .cleared, census := .cleared, roster := .cleared }

/-- R77: every timer of the lease unit becomes inactive; the tick counter runs on and the durations are kept. -/
def State.stopTimers (s : State) : State :=
  { s with lease := { s.lease with leases := [], pulse := .inactive, selfGuard := .inactive, window := .inactive } }

/-- R145: a slot at a clearing with this reason for WAITING and GRANTED; R150: drop-wanted is clear after it in every
slot. -/
def Slot.settle (reason : Reason) (b : Slot) : Slot :=
  match b.state with
  | .waiting => b.become .lost (some reason)
  | .granted => b.become .lost (some reason)
  | .releasing => b.become .free none
  | .free => { b with dropWanted := false }
  | .queued => { b with dropWanted := false }
  | .lost => { b with dropWanted := false }
  | .refused => { b with dropWanted := false }

/-- R145, R150: every slot is settled for the clearing's cause. -/
def State.settleSlots (reason : Reason) (s : State) : State :=
  { s with slots := s.slots.map (Slot.settle reason) }

/-- R78, R126, R133: the line unit becomes RECOVERING with its count at 0, LTX is released, and an open judgement is
discarded (R34). The line condition is kept. At a frame end this falls at sample 10 of a bit that the station may drive: LTX
is released there and not at sample 16 (log 44, the model's choice). -/
def State.recover (s : State) : State :=
  { s with
    line := { s.line with tracking := .recovering, recoverRun := 0, ltx := .rest, rx := none }
    judgement := none }

/-- R27, R50, R77, R119, R145: what self-restart, RESTART and the own LEAVE share. The slots are settled before the
outbound set keeps the CLAIM entries of the QUEUED ones. -/
def State.giveUp (reason : Reason) (s : State) : State :=
  ((s.clearCell.stopTimers).settleSlots reason).keepClaims

/-- R174: a self-restart. -/
def State.selfRestart (cause : OutCause) (s : State) : State :=
  State.raiseOut cause { (s.giveUp .out).recover with station := .listen }

/-- R119, R25, R66, R72, R76, R133, R150, R177: entry to HALTED. JOIN entries are withdrawn, the leases, the own pulse
deadline and the census window become inactive, the staging list is emptied, drop-wanted is clear, LTX is released; all
else is kept. The self guard runs on. At a frame end LTX is released at sample 10 of its last bit (log 44). -/
def State.halt (cause : HaltCause) (s : State) : State :=
  State.raiseHalt cause { s.discard EntryKind.isJoin with
    station := .halted
    census := { s.census with staging := [] }
    roster := { s.roster with clash := s.roster.clash || cause == HaltCause.clash }
    lease := { s.lease with leases := [], pulse := .inactive, window := .inactive }
    slots := s.slots.map fun b => { b with dropWanted := false }
    line := { s.line with ltx := .rest } }

/-- R114 to R116, R173: an exhausted JOIN entry halts the station, any other exhausted entry makes it self-restart. -/
def State.actOnExhaustion (s : State) : State :=
  match s.exhausted with
  | none => s
  | some e => if e.kind.isJoin then s.halt .joinFailed else s.selfRestart .retries

end Sys2Proof.Machine
end

