-- ==== Sys2Proof/Machine/Slots.lean ====
section
/-! DEFINITION. Machine/Slots.lean: what the table's outcomes (R15), an EXPIRE of self (R143) and a fence (R74) do to the
request slots and their entries. -/

namespace Sys2Proof.Machine

/-- R134: whether a slot is linked: the table consulted in this state holds this station's record of its tag. -/
def State.linked (s : State) (k : Nat) : Bool :=
  s.station.holdsTable && (s.table.find s.own k).isSome

/-- R138, R141: the placement of the own CLAIM of a tag reaches its slot, if it is QUEUED. R138 names no other state, which
a frame read as another tag's than the one sent could meet: the slot stays then (log 37, the model's choice). A QUEUED slot
that such a frame moves leaves its own held CLAIM entry where it is (log 10, the model's inference). -/
def State.slotPlaced (tag : Nat) (p : Placement) (s : State) : State :=
  if (s.slotAt tag).state = .queued then
    if (s.slotAt tag).dropWanted then
      match p with
      | .granted => (s.updateSlot tag (Slot.become .releasing none)).request (.drop tag)
      | .waiting => (s.updateSlot tag (Slot.become .releasing none)).request (.drop tag)
      | .refused _ => s.updateSlot tag (Slot.become .free none)
    else
      match p with
      | .granted => s.updateSlot tag (Slot.become .granted none)
      | .waiting => s.updateSlot tag (Slot.become .waiting none)
      | .refused reason => s.updateSlot tag (Slot.become .refused (some reason))
  else s

/-- R139: a grant of a record reaches its slot, if it is this station's and the slot is WAITING; at a RELEASING or LOST slot
the rule gives it no effect. R139 gives no row for a FREE, QUEUED or REFUSED slot, whose stale own record behind a
TAG_IN_USE refusal is granted: the slot stays as it is (log 37, the model's choice). -/
def State.slotGranted (s : State) (r : RecordRef) : State :=
  if r.owner = s.own ∧ (s.slotAt r.tag).state = .waiting then s.updateSlot r.tag (Slot.become .granted none) else s

/-- R12, R14, R15, R139: records are removed, the grant pass runs, and the grants reach the own slots. -/
def State.removeRecords (gone : Nat → Nat → Bool) (s : State) : State :=
  (s.table.remove gone).grantPass.2.foldl State.slotGranted
    { s with table := (s.table.remove gone).grantPass.1 }

/-- R12, R16 to R19, R138: a CLAIM taken from a station is placed, the grant pass runs, and the outcomes reach the own
slots. -/
def State.claimTaken (sender tag : Nat) (m : Mode) (zones : List Nat) (s : State) : State :=
  let placed := (s.table.place sender tag m zones).grantPass
  let granted := placed.2.foldl State.slotGranted { s with table := placed.1 }
  if sender = s.own then granted.slotPlaced tag (s.table.judgeClaim sender tag m zones) else granted

/-- R142: the own DROP of a tag is taken: a RELEASING slot becomes FREE, a LOST slot stays. R142 names no other state, which
a frame read as another tag's than the one sent could meet: the slot stays then (log 37, the model's choice). A RELEASING slot
that such a frame frees leaves its own held DROP entry where it is (log 10, the model's inference). -/
def State.slotDropped (tag : Nat) (s : State) : State :=
  if (s.slotAt tag).state = .releasing then s.updateSlot tag (Slot.become .free none) else s

/-- R20, R142: a DROP taken from a station. -/
def State.dropTaken (sender tag : Nat) (s : State) : State :=
  let removed := s.removeRecords fun o k => o == sender && k == tag
  if sender = s.own then removed.slotDropped tag else removed

/-- R143: the record of an own tag was removed by an EXPIRE of self. A QUEUED slot is not affected, as the rule says. R21
and R143 give no row for a FREE or REFUSED slot, whose stale own record behind a TAG_IN_USE refusal is removed: slot and
entries stay as they are (log 37, the model's choice). -/
def State.slotExpired (s : State) (tag : Nat) : State :=
  match (s.slotAt tag).state with
  | .waiting => s.updateSlot tag (Slot.become .lost (some .expired))
  | .granted => s.updateSlot tag (Slot.become .lost (some .expired))
  | .releasing => (s.updateSlot tag (Slot.become .free none)).discard fun k => k == .drop tag
  | .lost => s.discard fun k => k == .drop tag
  | .free => s
  | .queued => s
  | .refused => s

/-- The tags of this station's records, in request-list order. -/
def State.ownTags (s : State) : List Nat :=
  (s.table.requests.filter fun r => r.owner == s.own).map Record.tag

/-- R21, R143: an EXPIRE taken, naming a target. -/
def State.expireTaken (target : Nat) (s : State) : State :=
  let removed := s.removeRecords fun o _ => o == target
  if target = s.own then s.ownTags.foldl State.slotExpired removed else removed

/-- R74: the fence of one own record: a GRANTED or WAITING slot becomes LOST with reason FENCED and a DROP entry is
entered unless one is there. R74 gives no row for an own record whose slot is FREE, QUEUED or REFUSED, which a record left
behind a TAG_IN_USE refusal can meet: slot and outbound set stay as they are (log 37, the model's choice). -/
def State.fenceTag (s : State) (tag : Nat) : State :=
  match (s.slotAt tag).state with
  | .waiting => (s.updateSlot tag (Slot.become .lost (some .fenced))).request (.drop tag)
  | .granted => (s.updateSlot tag (Slot.become .lost (some .fenced))).request (.drop tag)
  | .releasing => s
  | .lost => s
  | .free => s
  | .queued => s
  | .refused => s

/-- R74: the fence, over the own records in request-list order. -/
def State.fenceRecords (s : State) : State :=
  s.ownTags.foldl State.fenceTag s

end Sys2Proof.Machine
end

