-- ==== Sys2Proof/Machine/Census.lean ====
section
/-! DEFINITION. Machine/Census.lean: the designated sender (R82), the CENSUS entry (R87), progress (R89), completion
(R91, R92), what a JOIN (R54, R83, R95), a LEAVE (R57) and an eviction (R52, R93) do to roster and census, and a JOINING
station's own JOIN taken (R55, R80, R84). -/

namespace Sys2Proof.Machine

/-! ### Designation -/

/-- R82 step 1: the candidate pool. -/
def candidatePool (roster synced : StationSet) : StationSet :=
  if synced.isEmpty then roster else synced

/-- R82 step 2: the pass-over set, emptied where it covers the whole pool. -/
def passOverFor (pool passOver : StationSet) : StationSet :=
  if pool.all fun k => passOver.contains k then [] else passOver

/-- R82 step 3: the lowest-numbered station of the pool that is not passed over. -/
def lowestCandidate (pool passOver : StationSet) : Option Nat :=
  (pool.filter fun k => !passOver.contains k).min?

/-- R82: the tracker recomputes its designated sender. -/
def State.redesignate (s : State) : State :=
  if s.census.freeze then
    let pool := candidatePool s.roster.roster s.roster.synced
    let passOver := passOverFor pool s.census.passOver
    { s with census := { s.census with passOver := passOver, designated := lowestCandidate pool passOver } }
  else { s with census := { s.census with designated := none } }

/-- R87: a tracker that is the designated sender holds one CENSUS entry, for the part whose index equals its progress;
any other holds none. -/
def State.keepCensusEntry (s : State) : State :=
  if s.census.freeze ∧ s.census.designated = some s.own then s.request (.census s.census.progress)
  else s.discard EntryKind.isCensus

/-- R76, R87, R94: census progress changes. The CENSUS entry is withdrawn and made anew where it is due; at a SYNCING
station the JOIN entry with PASS is withdrawn and the census window set running again. -/
def State.progressChanged (s : State) : State :=
  let made := (s.discard EntryKind.isCensus).keepCensusEntry
  if s.station = .syncing then
    { made.discard EntryKind.isJoin with lease := { s.lease with window := .running s.durations.window } }
  else made

/-- R81, R83, R93, R95: a run begins: progress is set to part 0, the run part count to none, the designated sender is
recomputed. -/
def State.resetRun (s : State) : State :=
  ({ s with census := { s.census with progress := 0, runCount := none } }.redesignate).progressChanged

/-- R91, R93: the census ends: both sets are emptied and with them the freeze, progress is 0, the run part count and the
designated sender none, and any CENSUS entry is withdrawn. -/
def State.endCensus (s : State) : State :=
  { s.discard EntryKind.isCensus with
    census := { s.census with joiners := [], passOver := [], progress := 0, runCount := none, designated := none } }

/-! ### Membership -/

/-- R54: a station enters the roster with miss count 0, or stays with miss count 0. A foreign JOIN of a number R or above that
a disturbed verdict sample lets be TAKEN (R63) is enrolled too, beyond the bound of R49 (log 11, the model's inference). -/
def RosterUnit.enrol (r : RosterUnit) (j : Nat) : RosterUnit :=
  { r with members := (setInsert j r.roster).map fun k =>
      { number := k, misses := if k = j then 0 else r.missesOf k } }

/-- R52, R57: stations leave the roster and the synced set, their miss counts with them. -/
def RosterUnit.drop (r : RosterUnit) (gone : StationSet) : RosterUnit :=
  { r with
    members := r.members.filter fun m => !gone.contains m.number
    synced := setDiff r.synced gone }

/-- R54: the synced set becomes the members whose standing slot was sampled DRIVE; a disturbed sample of the sender's own
slot is taken as it was read (log 36). -/
def RosterUnit.relearn (r : RosterUnit) (standing : StationSet) : RosterUnit :=
  { r with synced := setInter r.roster standing }

/-- R83, R95: the joiners set is the roster without the synced set. -/
def RosterUnit.owed (r : RosterUnit) : StationSet :=
  setDiff r.roster r.synced

/-- R95: the pass-over set after a JOIN: at a pass JOIN the designated sender as it stood joins it; at an ordinary JOIN
it is emptied (R83). -/
def Census.passedOver (c : Census) (passJoin : Bool) : StationSet :=
  if passJoin then
    match c.designated with
    | none => c.passOver
    | some d => setInsert d c.passOver
  else []

/-- R23, R54, R83, R95: a JOIN taken from station `j` at a census tracker. A member's records go first, with a grant
pass; then the roster and the synced set; then the census state. -/
def State.joinTaken (j : Nat) (pass : Bool) (standing : StationSet) (s : State) : State :=
  let cleared := if s.station = .synced ∧ s.isMember j = true then s.removeRecords fun o _ => o == j else s
  let roster := (s.roster.enrol j).relearn standing
  let passJoin := pass && s.census.joiners.contains j
  ({ cleared with
      roster := roster
      census := { s.census with joiners := roster.owed, passOver := s.census.passedOver passJoin } }).resetRun

/-- R22, R57, R58, R82: a LEAVE taken from another station, at SYNCED and SYNCING alike. Under the freeze, where only a
disturbed verdict sample lets a LEAVE be TAKEN, the joiners set and the pass-over set stay (log 39). -/
def State.leaveTaken (sender : Nat) (s : State) : State :=
  let removed := s.removeRecords fun o _ => o == sender
  (({ removed with roster := s.roster.drop [sender] }).redesignate).keepCensusEntry

/-- R100, R119, R145: the own LEAVE taken. -/
def State.ownLeaveTaken (s : State) : State :=
  State.raiseState { s.giveUp .left with
    station := .parked
    line := { s.line with ltx := .rest } }

/-- R24, R52, R93: members are evicted at a frame end. Under the freeze progress is set to part 0, be it by the new run or
by the end of the census: at a station that is SYNCING and stays so, the census window is renewed either way (R76) and a
JOIN with PASS withdrawn (R94). -/
def State.evict (gone : StationSet) (s : State) : State :=
  let removed := s.removeRecords fun o _ => gone.contains o
  let dropped := { removed with
    roster := s.roster.drop gone
    census := { s.census with
      joiners := setDiff s.census.joiners gone
      passOver := setDiff s.census.passOver gone } }
  if s.census.freeze then
    if dropped.census.freeze then dropped.resetRun else dropped.endCensus.progressChanged
  else dropped.redesignate

/-! ### CENSUS parts -/

/-- R25: the staging list after a part taken at a SYNCING station. -/
def Census.stage (c : Census) (p : Part) : List Record :=
  (if p.index = 0 then [] else c.staging) ++ p.records

/-- R89: the run part count after a part taken. -/
def Census.countAfter (c : Census) (p : Part) : Option Nat :=
  if p.index = 0 then some p.count else c.runCount

/-- R91, R58: the joiners that are members join the synced set. -/
def State.syncJoiners (s : State) : State :=
  { s with roster := { s.roster with
      synced := setUnion s.roster.synced (setInter s.census.joiners s.roster.roster) } }

/-- R26, R92: installation at a SYNCING tracker. -/
def State.install (records : List Record) (sequence : Word16) (s : State) : State :=
  State.raiseState { s.discard EntryKind.isJoin with
    station := .synced
    table := Table.install records sequence
    census := { s.census with staging := [] }
    lease := { s.lease with window := .inactive } }

/-- R89, R91, R92: a CENSUS part taken at a tracker. -/
def State.censusTaken (p : Part) (s : State) : State :=
  let staged := if s.station = .syncing then s.census.stage p else []
  let advanced : State := { s with census := { s.census with
    progress := s.census.progress + 1
    runCount := s.census.countAfter p
    staging := staged } }
  if some advanced.census.progress = advanced.census.runCount then
    if s.station = .syncing then (advanced.syncJoiners.endCensus).install staged p.sequence
    else advanced.syncJoiners.endCensus
  else advanced.progressChanged

/-! ### A JOINING station -/

/-- R55: the roster unit that a JOINING station learns from its own TAKEN JOIN; a disturbed sample of its own standing slot
is taken as it was read (log 36). -/
def RosterUnit.learned (own : Nat) (rollCall standing : StationSet) (clash : Bool) : RosterUnit :=
  { members := (setInsert own rollCall).map fun k => { number := k, misses := 0 }
    synced := setInter (setInsert own rollCall) standing
    clash := clash }

/-- R55, R80, R84: the own TAKEN JOIN at a JOINING station: a founder goes to SYNCED, any other to SYNCING with its
census state. -/
def State.ownJoinTaken (rollCall standing : StationSet) (s : State) : State :=
  let roster := RosterUnit.learned s.own rollCall standing s.roster.clash
  if roster.roster = [s.own] then
    (State.raiseState { s with station := .synced, roster := { roster with synced := [s.own] } }).raiseRoster s.own
  else
    ((State.resetRun { s with
        station := .syncing
        roster := roster
        census := { s.census with joiners := roster.owed, passOver := [], staging := [] } })).raiseRoster s.own

end Sys2Proof.Machine
end

