-- ==== Sys2Proof/Machine/Lease.lean ====
section
/-! DEFINITION. Machine/Lease.lean: the lease unit (04): its work at a frame end (R66, R67, R69 to R74), the deadlines
(R68, R73, R74, R94) and the tick (R64). -/

namespace Sys2Proof.Machine

/-! ### At a frame end (R71) -/

/-- R66: the timer of a peer's lease. -/
def LeaseUnit.leaseOf (l : LeaseUnit) (k : Nat) : Timer :=
  ((l.leases.find? fun x => x.peer == k).map Lease.timer).getD .inactive

/-- R66, R67: the lease of a peer that owns records, after a frame end: set running at the peer's own TAKEN frame and
when it comes into being, otherwise kept. -/
def State.leaseAfter (s : State) (renewed : Option Nat) (k : Nat) : Timer :=
  if renewed = some k ∨ s.lease.leaseOf k = .inactive then .running s.durations.lease else s.lease.leaseOf k

/-- R66: a lease for every other station that owns records in the table, and no other. -/
def State.leasesAfter (s : State) (renewed : Option Nat) : List Lease :=
  (setOf fun k => k != s.own && decide (0 < s.table.countOf k)).map fun k =>
    { peer := k, timer := s.leaseAfter renewed k }

/-- R69: whether an EXPIRE entry is withdrawn at a frame end: its target was heard, expired or left without records. -/
def State.expireMoot (s : State) (renewed expired : Option Nat) (k : EntryKind) : Bool :=
  match k with
  | .expire target =>
    renewed == some target || expired == some target || decide (s.table.countOf target = 0)
  | _ => false

/-- R72, R74: the own timers after a frame end. Without own records both are inactive; an own TAKEN frame sets both
running, as does the own record count rising from 0. -/
def State.ownTimersAfter (ownTaken : Bool) (s : State) : State :=
  if s.table.countOf s.own = 0 then { s with lease := { s.lease with pulse := .inactive, selfGuard := .inactive } }
  else if ownTaken = true ∨ s.lease.selfGuard = .inactive then
    { s with lease := { s.lease with
        pulse := .running s.durations.pulse
        selfGuard := .running s.durations.selfGuard } }
  else s

/-- R70: at the end of the freeze, EXPIRE entries for the peers whose leases stand reached, lowest first. -/
def State.enterDeferred (s : State) : State :=
  (s.lease.leases.filter fun l => l.timer == .reached).foldl (fun u l => u.request (.expire l.peer)) s

/-- R71: the lease unit's work at a frame end, the record counts being those of the changed table. `renewed` is the
sender of a TAKEN frame, `expired` the target of a TAKEN EXPIRE, `frozen` the freeze before the frame end. -/
def State.leaseWork (renewed expired : Option Nat) (ownTaken frozen : Bool) (s : State) : State :=
  let timed := ({ s with lease := { s.lease with leases := s.leasesAfter renewed } }).ownTimersAfter ownTaken
  let moot := timed.discard fun k =>
    s.expireMoot renewed expired k || (k == .pulse && (ownTaken || decide (s.table.countOf s.own = 0)))
  if frozen = true ∧ s.census.freeze = false ∧ s.station = .synced then moot.enterDeferred else moot

/-! ### Deadlines -/

/-- A timer that is running (section 4.3 of 04). -/
def Timer.isRunning (t : Timer) : Bool :=
  match t with
  | .running _ => true
  | _ => false

/-- The lease unit with one peer's lease reached. -/
def LeaseUnit.markReached (l : LeaseUnit) (k : Nat) : LeaseUnit :=
  { l with leases := l.leases.map fun x => if x.peer = k then { x with timer := .reached } else x }

/-- R68: a peer lease is reached; a timer that is not running is not reached. -/
def State.leaseReached (k : Nat) (s : State) : State :=
  if (s.lease.leaseOf k).isRunning then
    let marked := { s with lease := s.lease.markReached k }
    if s.station = .synced ∧ s.census.freeze = false then marked.request (.expire k) else marked
  else s

/-- R73: the own pulse deadline is reached. -/
def State.pulseReached (s : State) : State :=
  if s.lease.pulse.isRunning then
    let marked := { s with lease := { s.lease with pulse := .reached } }
    if s.station = .synced then marked.request .pulse else marked
  else s

/-- R74: the self guard is reached and the station fences its records. -/
def State.guardReached (s : State) : State :=
  if s.lease.selfGuard.isRunning then
    ({ s with lease := { s.lease with selfGuard := .reached } }).fenceRecords
  else s

/-- R76, R94: the census window is reached. -/
def State.windowReached (s : State) : State :=
  if s.lease.window.isRunning then
    let marked := { s with lease := { s.lease with window := .reached } }
    if s.station = .syncing then marked.request (.join true) else marked
  else s

/-! ### The tick (R64) -/

/-- R64: a running timer at a tick boundary. -/
def Timer.tick (t : Timer) : Timer :=
  match t with
  | .running n => .running (n - 1)
  | .inactive => .inactive
  | .reached => .reached

/-- R64: a timer whose last tick boundary has come. -/
def Timer.due (t : Timer) : Bool :=
  t == .running 0

/-- R64: every timer sees the tick boundary. -/
def LeaseUnit.tick (l : LeaseUnit) : LeaseUnit :=
  { l with
    ticks := l.ticks + 1
    leases := l.leases.map fun x => { x with timer := x.timer.tick }
    pulse := l.pulse.tick
    selfGuard := l.selfGuard.tick
    window := l.window.tick }

/-- R64, R68, R73, R74, R94: a tick boundary: the timers count, and those that are due are reached: the leases in
ascending order of peer, the pulse deadline, the self guard, the census window (log 6). -/
def State.tick (s : State) : State :=
  let counted := { s with lease := s.lease.tick }
  let leases := (counted.lease.leases.filter fun x => x.timer.due).foldl (fun u x => u.leaseReached x.peer) counted
  let pulsed := if leases.lease.pulse.due then leases.pulseReached else leases
  let guarded := if pulsed.lease.selfGuard.due then pulsed.guardReached else pulsed
  if guarded.lease.window.due then guarded.windowReached else guarded

end Sys2Proof.Machine
end

