-- ==== Sys2Proof/Machine/FrameEnd.lean ====
section
/-! DEFINITION. Machine/FrameEnd.lean: FRAME_END (R47): what a frame's outcome brings to every block, as one change. -/

namespace Sys2Proof.Machine

/-- R51: each member's miss count from the roll-call picture. -/
def RosterUnit.countMisses (r : RosterUnit) (rollCall : StationSet) : RosterUnit :=
  { r with members := r.members.map fun m =>
      { m with misses := if rollCall.contains m.number then 0 else m.misses + 1 } }

/-- R51: miss counting at the station. -/
def State.countMisses (rollCall : StationSet) (s : State) : State :=
  { s with roster := s.roster.countMisses rollCall }

/-- R52: the peers whose miss count has come to E. -/
def State.toEvict (s : State) : StationSet :=
  (s.roster.members.filter fun m => m.number != s.own && decide (s.evictAt ≤ m.misses)).map Member.number

/-- R34, R47, R124: the frame end: the line unit and the frame checker close the frame, and no judgement is open. The
last frame phase is still open, and a level driven in it is held (log 9). -/
def State.closeFrame (s : State) : State :=
  { s with line := { s.line with tracking := .ending, rx := none }, judgement := none }

/-- R8: the sequence number steps at a station in SYNCED. -/
def State.stepSequence (s : State) : State :=
  if s.station = .synced then { s with table := s.table.stepSequence } else s

/-- R13, R47, R58: the content of a TAKEN frame applied at a member. A SYNCING member has no table and applies JOIN, CENSUS
and LEAVE frames only. -/
def State.applyContent (sender : Nat) (f : Frame) (standing : StationSet) (s : State) : State :=
  match f with
  | .join pass => s.joinTaken sender pass standing
  | .census p => s.censusTaken p
  | .pulse => s
  | .claim tag m zones => if s.station = .synced then s.claimTaken sender tag m zones else s
  | .drop tag => if s.station = .synced then s.dropTaken sender tag else s
  | .expire target => if s.station = .synced then s.expireTaken target else s
  | .leave => if sender = s.own then s.ownLeaveTaken else s.leaveTaken sender

/-- The content a station takes from the cells: none from a frame it did not receive GOOD (R37) or whose octets break
the layout (log 10). -/
def State.content (s : State) (c : FrameCells) : Option Frame :=
  if c.reception = .good then s.parse c else none

/-- R87, R134: what the entry of an own TAKEN frame leaves behind once the frame's content is applied: the designated sender
holds a CENSUS entry again where its own has gone and the census runs on, and the slot of a CLAIM that has gone from the line
is drop-wanted no more. Both stand already where the frame was read as it was sent. -/
def State.settleTaken (gone : Option Entry) (s : State) : State :=
  match gone.map Entry.kind with
  | some (.census _) => s.keepCensusEntry
  | some (.claim tag) => s.updateSlot tag fun b => { b with dropWanted := false }
  | _ => s

/-- R8, R47, R111: a TAKEN frame at a member, after miss counting: the own entry, the sequence number, the content as it was
read. An own frame that a disturbed line had read otherwise than it was sent, not GOOD or as other content, still goes as
TAKEN (log 10, the model's inference): a LEAVE so read leaves the station SYNCED, not PARKED (R100); an EXPIRE so read leaves
the target's records; a JOIN with PASS so read is not entered again while the census window stays reached; the slot of a CLAIM or DROP so read keeps its state, QUEUED, RELEASING or LOST, with no entry, since R141 and R142 settle it
by a placement or removal that this station did not read. -/
def State.applyTaken (own : Bool) (c : FrameCells) (standing : StationSet) (s : State) : State :=
  let stepped := (if own then s.takeEntry else s).stepSequence
  let applied := match s.content c with
    | none => stepped
    | some f => stepped.applyContent c.sender f standing
  if own then applied.settleTaken s.outbound.onLine else applied

/-- R62: the detail of the ROSTER attention that a TAKEN frame raises at a member: a joiner's or a leaver's number, at
SYNCING too (log 39). -/
def State.membershipChange (s : State) (c : FrameCells) : Option Nat :=
  match s.content c with
  | some (.join _) => some c.sender
  | some .leave => some c.sender
  | _ => none

/-- R62: ROSTER raised once for the frame end, where membership changed. -/
def State.raiseRosterFor (detail : Option Nat) (s : State) : State :=
  match detail with
  | none => s
  | some k => s.raiseRoster k

/-- R63: FOREIGN raised for a JOIN marked foreign. -/
def State.raiseForeignFor (foreign : Bool) (sender : Nat) (s : State) : State :=
  if foreign then s.raiseForeign sender else s

/-- R51 to R53, R67, R69, R112: the rest of a frame end at a member that is still one: evictions, the own VOID attempt,
the lease unit; then the own miss count (R53), or ROSTER attention (R62) and an exhaustion (R114). `before` is the station
before the frame end. The lease unit receives the sender of every TAKEN frame, as its key was read. Two choices of the model
stand here, for disturbed samples: a frame end that both takes a JOIN or LEAVE and evicts raises ROSTER with the lowest
evicted number (log 12), and a TAKEN frame of the own number whose attempt was abandoned (R38) is no own TAKEN frame to the
lease unit, so that the own timers and a PULSE entry stay (log 41). -/
def State.finishMember (s before : State) (own : Bool) (obs : FrameObs) : State :=
  let gone := s.toEvict
  let evicted := if gone.isEmpty then s else s.evict gone
  let settled := if own && !obs.taken then evicted.endAttempt true else evicted
  let content := if obs.taken then before.content obs.cells else none
  let renewed := if obs.taken then some obs.cells.sender else none
  let expired := match content with
    | some (.expire target) => some target
    | _ => none
  let leased := settled.leaseWork renewed expired (own && obs.taken) before.census.freeze
  if leased.evictAt ≤ leased.roster.missesOf leased.own then leased.selfRestart .ownMisses
  else
    let detail := match gone.min? with
      | some k => some k
      | none => if obs.taken then before.membershipChange obs.cells else none
    (leased.raiseRosterFor detail).actOnExhaustion

/-- R47: the frame end at a member in SYNCED or SYNCING. After its own LEAVE is taken the station is in PARKED and no
more is done (R100). -/
def State.memberFrameEnd (own : Bool) (obs : FrameObs) (s : State) : State :=
  let foreign := s.foreignJoin obs.cells
  let counted := s.countMisses obs.rollCall
  let applied := if obs.taken then counted.applyTaken own obs.cells obs.standing else counted
  let finished := if applied.station = .parked then applied else applied.finishMember s own obs
  finished.raiseForeignFor foreign obs.cells.sender

/-- R47, R79: the frame end at a JOINING station, for its own JOIN alone. -/
def State.joiningFrameEnd (own : Bool) (obs : FrameObs) (s : State) : State :=
  if own then
    if obs.taken then s.takeEntry.ownJoinTaken obs.rollCall obs.standing
    else (s.endAttempt true).actOnExhaustion
  else s

/-- R60, R61: the identity clash, found at the end of the second CRC cell. An attempt still on the line that the key read
shows lost ends first, as lost in arbitration, so that no own frame is on the line at the halt (R177, log 13). -/
def State.clashFound (c : FrameCells) (s : State) : State :=
  if s.clashes c then (s.endAttempt false).halt .clash else s

/-- R128: an attempt that sent REST in a key bit read DRIVE has lost key arbitration (log 13). -/
def State.loseUnlessOwn (c : FrameCells) (s : State) : State :=
  if s.ownAttempt c then s else s.endAttempt false

/-- R47: the frame end of a frame this station followed. A clash not found before is found first, and an attempt that the
key read shows lost ends as lost (log 13). Any other attempt still on the line was not abandoned, whatever key was read, and
its outcome is handed on. -/
def State.frameEnd (obs : FrameObs) (s : State) : State :=
  if s.line.tracking = .frame then
    let settled := (s.clashFound obs.cells).loseUnlessOwn obs.cells
    let own := settled.ownAttempt obs.cells
    let closed := settled.closeFrame
    match closed.station with
    | .synced => closed.memberFrameEnd own obs
    | .syncing => closed.memberFrameEnd own obs
    | .joining => closed.joiningFrameEnd own obs
    | .halted => closed
    | .parked => closed
    | .listen => closed
    | .config => closed
  else s

/-- FRAME_END (R47): the frame's outcome is handed to every block, as one change. -/
def execFrameEnd (obs : FrameObs) (s : State) : Host.Outcome State Fault Refusal :=
  .next (s.frameEnd obs)

end Sys2Proof.Machine
end

