-- ==== Sys2Proof/Machine/LineEvents.lean ====
section
/-! DEFINITION. Machine/LineEvents.lean: the events of the line unit and the frame checker up to the frame end (07, 02):
start moments and key marks (R127), arbitration loss (R128), bit error (R129), a frame broken off (R36), the identity
clash (R61), STUCK and NORMAL (R130, R131), frame-aware (R126), the round gap (R117). An event that cannot arise in the
station's state changes nothing (log 4). -/

namespace Sys2Proof.Machine

/-- R117, R125: quiet time has come to a count; it stops at 40, and at 40 the spent flag is cleared. -/
def State.quietComesTo (n : Nat) (s : State) : State :=
  let quiet := min Config.roundGap (max s.line.quiet n)
  { s with
    line := { s.line with quiet := quiet }
    outbound := { s.outbound with spent := s.outbound.spent && decide (quiet < Config.roundGap) } }

/-- R127: the line unit asks for a frame where quiet time is 12 or more. -/
def State.askIfSettled (s : State) : State :=
  if Config.settleGap ≤ s.line.quiet then s.ask else s

/-- R127: a start moment in QUIET. -/
def State.frameStart (quiet : Nat) (s : State) : State :=
  if s.line.tracking = .quiet then (s.quietComesTo quiet).askIfSettled else s

/-- R124, R125: the last frame phase closes: QUIET with quiet time 0. -/
def State.closePhase (s : State) : State :=
  if s.line.tracking = .ending then { s with line := { s.line with tracking := .quiet, quiet := 0 } } else s

/-- R128, R129: the station stops driving. -/
def State.stopDriving (s : State) : State :=
  { s with line := { s.line with ltx := .rest } }

/-- R124, R125: a command that counts quiet time comes after the close of the last frame phase and the sample 1 that
releases a level driven in it (log 9). -/
def State.afterLastPhase (s : State) : State :=
  if s.line.tracking = .ending then s.closePhase.stopDriving else s

/-- FRAME_START (R127). -/
def execFrameStart (quiet : Nat) (s : State) : Host.Outcome State Fault Refusal :=
  .next (s.afterLastPhase.frameStart quiet)

/-- R124: a frame of which no bit has been read. -/
def Rx.opened : Rx :=
  { position := 0, cell := [], octets := [], endFault := false, rollCall := [], verdict1 := .rest, verdict2 := .rest,
    standing := [] }

/-- R34, R35, R125: the line unit goes to FRAME, and the frame checker opens its judgement in the states that judge. -/
def State.openFrame (s : State) : State :=
  { s with
    line := { s.line with tracking := .frame, rx := some Rx.opened }
    judgement := if s.station.opensJudgement then some Judgement.opened else none }

/-- R121, R122: a mark edge: DRIVE is accepted, and its sample becomes sample 3 of a new bit time. LTX stays as it is: the bit
time so begun has no sample 1, at which a station changes LTX (log 43, the model's inference). -/
def State.resync (s : State) : State :=
  { s with line := { s.line with accepted := .drive, filterRun := 0, phase := Config.edgeSample } }

/-- R34, R122, R127: a mark edge accepted in QUIET. A station that has not started the frame itself and whose quiet time is 12
or more is asked for a frame once, and then contends; in any case the frame is followed. -/
def State.keyMark (quiet : Nat) (s : State) : State :=
  if s.line.tracking = .quiet then ((s.resync.quietComesTo quiet).askIfSettled).openFrame else s

/-- KEY_MARK (R34, R127). -/
def execKeyMark (quiet : Nat) (s : State) : Host.Outcome State Fault Refusal :=
  .next (s.afterLastPhase.keyMark quiet)

/-- R110, R128: the own attempt on the line is lost in key arbitration, uncounted; the frame is received. -/
def State.arbitrationLoss (s : State) : State :=
  if s.line.tracking = .frame ∧ s.outbound.onLine.isSome = true then (s.endAttempt false).stopDriving else s

/-- ARBITRATION_LOSS (R128). -/
def execArbitrationLoss (s : State) : Host.Outcome State Fault Refusal :=
  .next s.arbitrationLoss

/-- R38, R60: the judgement stays open and keeps that the own attempt was abandoned on a bit error (log 35). -/
def State.markAbandoned (s : State) : State :=
  { s with judgement := s.judgement.map fun j => { j with abandoned := true } }

/-- R113, R129: the own attempt on the line meets a bit error after its key: it is abandoned and counted, and an
exhaustion is acted on at once (R114, R173). The frame goes on being received (R38). -/
def State.bitError (s : State) : State :=
  if s.line.tracking = .frame ∧ s.outbound.onLine.isSome = true then
    ((s.endAttempt true).stopDriving.markAbandoned).actOnExhaustion
  else s

/-- BIT_ERROR (R129). -/
def execBitError (s : State) : Host.Outcome State Fault Refusal :=
  .next s.bitError

end Sys2Proof.Machine

namespace Sys2Proof

/-- R48, R128, R129: whether a break-off at a station still sending counts as a bit error: a DRIVE read in an end bit it
sent as REST. A mark it sent and read REST, and a length misread, do not count (log 14). -/
def BreakCause.counted (c : BreakCause) : Bool :=
  match c with
  | .keyMarkRest => false
  | .markRest => false
  | .keyEndDrive => true
  | .lengthEndDrive => true
  | .lengthAbove40 => false

/-- R36, R126: the REST bits already counted when the frame is broken off: the bit that breaks it off is the first of
the 80 where it was read REST (log 33). -/
def BreakCause.restBits (c : BreakCause) : Nat :=
  match c with
  | .keyMarkRest => 1
  | .markRest => 1
  | .keyEndDrive => 0
  | .lengthEndDrive => 0
  | .lengthAbove40 => 1

end Sys2Proof

namespace Sys2Proof.Machine

/-- R126: the count of REST bits at a station that becomes RECOVERING. -/
def State.countFrom (n : Nat) (s : State) : State :=
  { s with line := { s.line with recoverRun := n } }

/-- R36, R48: the frame is broken off at this station: the judgement closes without a frame end, an own attempt ends,
and the station becomes RECOVERING. -/
def State.brokenOff (cause : BreakCause) (s : State) : State :=
  if s.line.tracking = .frame then
    (((s.endAttempt cause.counted).recover).countFrom cause.restBits).actOnExhaustion
  else s

/-- FRAME_BROKEN_OFF (R36). -/
def execFrameBrokenOff (cause : BreakCause) (s : State) : Host.Outcome State Fault Refusal :=
  .next (s.brokenOff cause)

/-- R60, R61: the clash found in the frame being followed. -/
def State.identityClash (cells : FrameCells) (s : State) : State :=
  if s.line.tracking = .frame then s.clashFound cells else s

/-- IDENTITY_CLASH (R61). -/
def execIdentityClash (cells : FrameCells) (s : State) : Host.Outcome State Fault Refusal :=
  .next (s.identityClash cells)

/-- R130: the drive count comes to 48 with the condition NORMAL. -/
def State.becomeStuck (s : State) : State :=
  if s.line.sampling = true ∧ s.line.condition = .normal then
    let ended := s.endAttempt false
    State.raiseLine { ended with
      line := { s.line with condition := .stuck, ltx := .rest, tracking := .none, rx := none,
                            driveRun := max s.line.driveRun Config.stuckRun, restRun := 0 }
      judgement := none }
  else s

/-- STUCK (R130). -/
def execStuck (s : State) : Host.Outcome State Fault Refusal :=
  .next s.becomeStuck

/-- R131: the 40th consecutive REST bit of a STUCK line. -/
def State.becomeNormal (s : State) : State :=
  if s.line.condition = .stuck then
    State.raiseLine { s with line := { s.line with
      condition := .normal, tracking := .recovering, recoverRun := 0, driveRun := 0, restRun := 0 } }
  else s

/-- LINE_NORMAL (R131). -/
def execLineNormal (s : State) : Host.Outcome State Fault Refusal :=
  .next s.becomeNormal

/-- R78, R117, R126: the 80th consecutive REST bit while RECOVERING: QUIET with quiet time 40, the spent flag clear, and
a LISTEN station goes to JOINING with its JOIN entry. -/
def State.becomeAware (s : State) : State :=
  if s.line.tracking = .recovering ∧ s.line.condition = .normal then
    let aware := { s with
      line := { s.line with tracking := .quiet, quiet := Config.roundGap, recoverRun := 0 }
      outbound := { s.outbound with spent := false } }
    if s.station = .listen then ({ aware with station := .joining }).request (.join false) else aware
  else s

/-- FRAME_AWARE (R126). -/
def execFrameAware (s : State) : Host.Outcome State Fault Refusal :=
  .next s.becomeAware

/-- R117: quiet time reaches the round gap. -/
def State.roundGap (s : State) : State :=
  if s.line.tracking = .quiet then s.quietComesTo Config.roundGap else s

/-- ROUND_GAP (R117). -/
def execRoundGap (s : State) : Host.Outcome State Fault Refusal :=
  .next s.afterLastPhase.roundGap

end Sys2Proof.Machine
end

