-- ==== Sys2Proof/Machine/LeaseEvents.lean ====
section
/-! DEFINITION. Machine/LeaseEvents.lean: the commands that report a deadline of the lease unit (04). A deadline whose
timer is not running is not reached (R176, logs 4 and 5). -/

namespace Sys2Proof.Machine

/-- PEER_LEASE_REACHED (R68). -/
def execPeerLeaseReached (peer : Nat) (s : State) : Host.Outcome State Fault Refusal :=
  .next (s.leaseReached peer)

/-- OWN_PULSE_DEADLINE_REACHED (R73). -/
def execOwnPulseDeadlineReached (s : State) : Host.Outcome State Fault Refusal :=
  .next s.pulseReached

/-- FENCE (R74). -/
def execFence (s : State) : Host.Outcome State Fault Refusal :=
  .next s.guardReached

/-- CENSUS_WINDOW_REACHED (R94). -/
def execCensusWindowReached (s : State) : Host.Outcome State Fault Refusal :=
  .next s.windowReached

end Sys2Proof.Machine
end

