-- ==== Sys2Proof/Machine/Clock.lean ====
section
/-! DEFINITION. Machine/Clock.lean: the station on its own clock (07, R64): one CLKIN cycle divides into ticks and
samples; a sample passes the level filter (R121), moves the bit phase (R122), opens a bit with LTX (R122, R123) and reads
it (R122); a bit read counts quiet, REST and DRIVE runs (R125, R126, R130, R131) or takes its place in the frame (R124).
What the line unit finds this way are the line commands, applied by their own operations. -/

namespace Sys2Proof

open Machine

/-- R31, R34: the cells of the frame received so far. -/
def Machine.Rx.cells (x : Rx) : FrameCells :=
  let n := (x.octets.getD 1 0).toNat
  { key := x.octets.getD 0 0, length := x.octets.getD 1 0, body := (x.octets.drop 2).take n,
    crcHigh := x.octets.getD (n + 2) 0, crcLow := x.octets.getD (n + 3) 0, endFault := x.endFault }

end Sys2Proof

namespace Sys2Proof.Machine

/-! ### Places in a frame (R123, R124) -/

/-- R34, R47: what was read of the frame, as it is handed on. -/
def Rx.observed (x : Rx) : FrameObs :=
  { cells := x.cells, rollCall := x.rollCall, verdict1 := x.verdict1, verdict2 := x.verdict2, standing := x.standing }

/-- R124: the bits of the cells: B once the length cell is read, and before that no fewer than the first two cells. -/
def Rx.cellBits (x : Rx) : Nat :=
  if x.octets.length < 2 then 20 else 10 * (4 + (x.octets.getD 1 0).toNat)

/-- R123: the level a sender sends at a bit position of its cells: the mark DRIVE, a 0 DRIVE and a 1 REST, the end bit
REST. -/
def sentLevel (octets : List Byte) (position : Nat) : Level :=
  match position % 10 with
  | 0 => .drive
  | 9 => .rest
  | o => if (octets.getD (position / 10) 0).getLsbD (8 - o) then .rest else .drive

/-- R42, R44, R46, R123, R124: the level this station drives for the next bit of the frame. -/
def State.driveLevel (s : State) (x : Rx) : Level :=
  let base := x.cellBits
  if (s.station.mayDrive && s.line.condition == .normal) = false then .rest
  else if s.outbound.onLine.isSome = true ∧ x.position < 10 * s.outbound.sending.length then
    sentLevel s.outbound.sending x.position
  else if x.octets.length < 2 then .rest
  else if x.position = base + 1 + s.own ∧ s.own < s.rosterSlots then
    ((s.judgement.bind Judgement.ack).getD .rest)
  else if x.position = base + 1 + s.rosterSlots ∨ x.position = base + 2 + s.rosterSlots then
    ((s.judgement.bind Judgement.void).getD .rest)
  else if x.cells.frameClass = 2 ∧ x.position = base + 4 + s.rosterSlots + s.own ∧ s.own < s.rosterSlots then s.stand
  else .rest

/-! ### A bit of a frame -/

/-- The line unit with its record of the frame changed. -/
def State.setRx (x : Rx) (s : State) : State :=
  { s with line := { s.line with rx := some x } }

/-- R128, R129: this station sent the bit as REST and reads it as DRIVE. A sender that read its own length cell as longer
than it sent it has no bit of its own left once its last CRC cell is sent: LTX rests to the end of the cells as it counts
them, and no bit read there is a bit error (log 40, the model's choice). -/
def State.conflict (s : State) (x : Rx) (b : Level) : Bool :=
  s.outbound.onLine.isSome && b == .drive && decide (x.position < 10 * s.outbound.sending.length) &&
    sentLevel s.outbound.sending x.position == .rest

/-- R34, R60: the end of the second CRC cell: a clash is found, and reception, objection, foreign mark and ack are
set, at a station that has just halted like at any HALTED one (R177). -/
def State.endOfCells (x : Rx) (s : State) : State :=
  if s.line.tracking = .frame then
    let tested := s.clashFound x.cells
    { tested with judgement := tested.judgement.map (tested.judgeContent x.cells) }
  else s

/-- R34, R37: a faulty end bit of a body or CRC cell: the judgement records reception ERROR at once. -/
def State.markError (s : State) : State :=
  { s with judgement := s.judgement.map fun j => { j with reception := some .error } }

/-- R36, R37, R123, R128, R129: a bit of a cell is read. -/
def State.cellBit (b : Level) (x : Rx) (s : State) : State :=
  let at_ := x.position % 10
  let cell := x.position / 10
  if at_ = 0 then
    if b = .rest then s.brokenOff (if cell = 0 then .keyMarkRest else .markRest)
    else s.setRx { x with position := x.position + 1, cell := [] }
  else if at_ < 9 then
    let read := s.setRx { x with position := x.position + 1, cell := x.cell ++ [b == .rest] }
    if s.conflict x b then (if cell = 0 then read.arbitrationLoss else read.bitError) else read
  else if b = .drive ∧ cell = 0 then s.brokenOff .keyEndDrive
  else if b = .drive ∧ cell = 1 then s.brokenOff .lengthEndDrive
  else if cell = 1 ∧ Config.maxBody < (octetOfBits x.cell).toNat then s.brokenOff .lengthAbove40
  else
    let x' := { x with position := x.position + 1, cell := [], octets := x.octets ++ [octetOfBits x.cell],
                       endFault := x.endFault || b == .drive }
    let read := if b = .drive then (s.setRx x').markError else s.setRx x'
    let judged := if s.conflict x b then read.bitError else read
    if x'.position = x'.cellBits ∧ 2 ≤ x'.octets.length then judged.endOfCells x' else judged

/-- R43, R44: the last roll-call sample: the void is decided. -/
def State.decideVoid (x : Rx) (s : State) : State :=
  { s with judgement := s.judgement.map fun j => { j with void := some (s.void x.cells x.rollCall) } }

/-- R45: the second verdict sample: the outcome is fixed. -/
def State.decideOutcome (x : Rx) (s : State) : State :=
  { s with judgement := s.judgement.map fun j =>
      { j with outcome := some (if x.observed.taken then .taken else .void) } }

/-- R124: a bit after the cells is read: turn bit, roll-call, verdict, and for a JOIN the second turn bit and the
standing call. A bit's place is the number of bits read since the key mark (log 38). -/
def State.phaseBit (b : Level) (x : Rx) (s : State) : State :=
  let base := x.cellBits
  let slots := s.rosterSlots
  let next := { x with position := x.position + 1 }
  if x.position = base then s.setRx next
  else if x.position ≤ base + slots then
    let k := x.position - base - 1
    let x' := { next with rollCall := if b = .drive then setInsert k x.rollCall else x.rollCall }
    if k + 1 = slots then (s.setRx x').decideVoid x' else s.setRx x'
  else if x.position = base + 1 + slots then s.setRx { next with verdict1 := b }
  else if x.position = base + 2 + slots then
    let x' := { next with verdict2 := b }
    let decided := (s.setRx x').decideOutcome x'
    if x.cells.frameClass = 2 then decided else decided.frameEnd x'.observed
  else if x.position = base + 3 + slots then s.setRx next
  else
    let k := x.position - (base + 4 + slots)
    let x' := { next with standing := if b = .drive then setInsert k x.standing else x.standing }
    if k + 1 = slots then (s.setRx x').frameEnd x'.observed else s.setRx x'

/-- R124: a bit read inside a frame. -/
def State.frameBit (b : Level) (s : State) : State :=
  match s.line.rx with
  | none => s
  | some x => if x.position < x.cellBits then s.cellBit b x else s.phaseBit b x

/-! ### A bit read (R122) -/

/-- R126: a bit read while RECOVERING. -/
def State.recoverBit (b : Level) (s : State) : State :=
  if b = .drive then { s with line := { s.line with recoverRun := 0 } }
  else if s.line.recoverRun + 1 < Config.awareRun then
    { s with line := { s.line with recoverRun := s.line.recoverRun + 1 } }
  else s.becomeAware

/-- R131: a bit read while the line is STUCK. -/
def State.stuckBit (b : Level) (s : State) : State :=
  if b = .drive then { s with line := { s.line with restRun := 0 } }
  else if s.line.restRun + 1 < Config.normalRun then
    { s with line := { s.line with restRun := s.line.restRun + 1 } }
  else s.becomeNormal

/-- R117, R125: a bit read in QUIET. -/
def State.quietBit (b : Level) (s : State) : State :=
  if b = .rest then s.quietComesTo (s.line.quiet + 1) else s

/-- R125: a bit read, by the tracking state. -/
def State.trackedBit (b : Level) (s : State) : State :=
  match s.line.tracking with
  | .none => s
  | .recovering => s.recoverBit b
  | .quiet => s.quietBit b
  | .frame => s.frameBit b
  | .ending => s

/-- R130: the drive count after a bit. -/
def State.countDrive (b : Level) (s : State) : State :=
  { s with line := { s.line with driveRun := if b = .drive then s.line.driveRun + 1 else 0 } }

/-- R122, R130, R131: the bit is read at sample 10: the drive count and the line condition come first, then the
tracking state. The bit that makes the line STUCK is therefore no bit of a frame: a frame end, break-off, bit error or lost
arbitration that it would bring too does not come about (log 45, the model's choice). -/
def State.readBit (s : State) : State :=
  let b := s.line.accepted
  let counted := s.countDrive b
  match s.line.condition with
  | .stuck => counted.stuckBit b
  | .normal => if Config.stuckRun ≤ counted.line.driveRun then counted.becomeStuck else counted.trackedBit b

/-! ### A sample (R121, R122) -/

/-- R123: the level LRX shows: DRIVE when this station or the rest of the line drives (log 7). -/
def State.lrx (s : State) : Level :=
  if s.line.ltx = .drive ∨ s.line.far = .drive then .drive else .rest

/-- R122, R127: sample 1 of a bit time. LTX takes the level of the bit, and in QUIET a start moment is used. LTX changes here
and holds its level to the next sample 1, also through a bit time that an edge at samples 11 to 16 begins at its sample 3
(log 43, the model's inference). -/
def State.openBit (s : State) : State :=
  match s.line.tracking with
  | .none => s.stopDriving
  | .recovering => s.stopDriving
  | .frame =>
    match s.line.rx with
    | none => s.stopDriving
    | some x => { s with line := { s.line with ltx := s.driveLevel x } }
  | .ending => s.afterLastPhase
  | .quiet => if s.outbound.onLine.isSome then s else s.stopDriving.frameStart s.line.quiet

/-- R122, R125, R127: a mark edge moves the phase in every tracking state, and in QUIET it is a key mark. In the last
frame phase it is none, and the phase closes at sample 16 of the bit time that the edge begins (log 9). -/
def State.markEdge (s : State) : State :=
  s.resync.keyMark s.line.quiet

/-- R121: a sample through the level filter; a new level is accepted at the third consecutive sample that shows it. -/
def State.filterSample (b : Level) (s : State) : State :=
  if b = s.line.accepted then { s with line := { s.line with filterRun := 0 } }
  else if s.line.filterRun + 1 < Config.filterLength then
    { s with line := { s.line with filterRun := s.line.filterRun + 1 } }
  else if b = .drive then s.markEdge
  else { s with line := { s.line with accepted := .rest, filterRun := 0 } }

/-- R121, R122, R124: one sample of LRX: sample 1 opens a bit time, sample 10 reads the bit, sample 16 closes the bit time
and with it the last frame phase. Only a bit read counts as a frame position: an edge before sample 10 has the same
position read again, and one after it begins the next (log 38, the model's choice). Where the sample that is sample 1 by the
running count accepts DRIVE and so becomes sample 3, the bit is opened first, LTX changing and a start moment being used, and
the phase moved then (log 42, the model's choice). An edge at any other sample leaves LTX as it is (log 43, the model's
inference). -/
def State.sample (s : State) : State :=
  let moved := { s with line := { s.line with phase := s.line.phase % Config.samplesPerBit + 1 } }
  let opened := if moved.line.phase = 1 then moved.openBit else moved
  let filtered := opened.filterSample opened.lrx
  let read := if filtered.line.phase = Config.readSample then filtered.readBit else filtered
  if read.line.phase = Config.samplesPerBit then read.closePhase else read

/-! ### CLKIN -/

/-- R64: CLKIN divided into ticks. -/
def State.tickCycle (s : State) : State :=
  if s.lease.divider + 1 < Config.cyclesPerTick then
    { s with lease := { s.lease with divider := s.lease.divider + 1 } }
  else ({ s with lease := { s.lease with divider := 0 } }).tick

/-- R120: CLKIN divided into samples, from START on. -/
def State.sampleCycle (s : State) : State :=
  if s.line.sampling then
    if s.line.divider + 1 < Config.sampleDivisor s.config.rate then
      { s with line := { s.line with divider := s.line.divider + 1 } }
    else ({ s with line := { s.line with divider := 0 } }).sample
  else s

/-- R64, R120, R179: one CLKIN cycle; while RESETN is low every block is held (log 1). Where a tick and a sample fall in
one cycle, the tick with its deadlines and the fence comes first: the rules allow either order (R75, R148, R153), and this
one is the model's choice (log 34). -/
def State.clock (s : State) : State :=
  if s.resetnLow then s else s.tickCycle.sampleCycle

end Sys2Proof.Machine
end

