-- ==== Sys2Proof/Machine/HostPort.lean ====
section
/-! DEFINITION. Machine/HostPort.lean: the host port (09): the answer a command is kept with (R153, R158), and what SDO
carries (R151). -/

namespace Sys2Proof.Machine

/-- R154, R179: while RESETN is low the port takes no command. -/
def State.hostTake (act : State → State) (s : State) : State :=
  if s.resetnLow then s else act s

/-- R153, R158: the response formed at the taking: the status octet and the data octets. -/
def State.respond (a : Answer) (data : List Byte) (s : State) : State :=
  { s with port := .kept (a.code :: data) 0 }

/-- R152: CSN rises before a command is taken: no effect, a partial octet is discarded. -/
def State.breakTransaction (s : State) : State :=
  { s with port := .idle }

/-! ### What SDO carries (R151) -/

/-- R151, R154: what SDO carries: nothing while CSN is high or RESETN low (log 20); 0 during the command and operand octets
and up to the falling edge of SCK that follows the taking; from that edge on one bit of the kept response for each falling
edge, most significant first, and 0 after the last. -/
def State.sdo (s : State) : Option Bool :=
  if s.resetnLow then none
  else
    match s.port with
    | .idle => none
    | .ignoring => none
    | .receiving _ _ => some false
    | .kept _ 0 => some false
    | .kept response (n + 1) => some ((response.getD (n / 8) 0).getLsbD (7 - n % 8))

end Sys2Proof.Machine
end

