-- ==== Sys2Proof/Machine/HostCommands.lean ====
section
/-! DEFINITION. Machine/HostCommands.lean: the thirteen host commands and the two ends a transaction can have without
one (09, with the rule of each owner). -/

namespace Sys2Proof.Machine

/-! ### Configuration and START -/

/-- R155: the configuration set that the nine operand octets write. -/
def ConfigSet.written (station slots zones rate lease guardCode evict retry mask : Byte) : ConfigSet :=
  { station := station, rosterSlots := slots, zoneCount := zones, rate := rate.setWidth 2, leaseCode := lease,
    guardCode := guardCode, evict := evict, retry := retry, mask := mask.setWidth 7 }

/-- R155: CONFIGURE acts in CONFIG only. -/
def State.configure (c : ConfigSet) (s : State) : State :=
  if s.station = .config then ({ s with config := c }).respond .ok [] else s.respond .wrongState []

/-- CONFIGURE (R155). -/
def execConfigure (station slots zones rate lease guardCode evict retry mask : Byte) (s : State) :
    Host.Outcome State Fault Refusal :=
  .next (s.hostTake (State.configure (.written station slots zones rate lease guardCode evict retry mask)))

/-- R172: the number of the first check the configuration fails; 0 where it passes all six. -/
def ConfigSet.failedCheck (c : ConfigSet) : Nat :=
  if ¬(4 ≤ c.rosterSlots.toNat ∧ c.rosterSlots.toNat ≤ 32) then 1
  else if ¬(c.station.toNat < c.rosterSlots.toNat) then 2
  else if ¬(8 ≤ c.zoneCount.toNat ∧ c.zoneCount.toNat ≤ 64) then 3
  else if ¬(2 ≤ c.evict.toNat ∧ c.evict.toNat ≤ 8) then 4
  else if ¬((3 ≤ c.retry.toNat ∧ c.retry.toNat ≤ 15) ∧ c.evict.toNat < c.retry.toNat) then 5
  else if ¬((1 ≤ c.guardCode.toNat ∧ c.guardCode.toNat ≤ 63) ∧ 2 * c.guardCode.toNat ≤ c.leaseCode.toNat) then 6
  else 0

/-- R65, R78, R120, R121, R133, R172: an accepted START: the durations are computed, the line unit begins sampling with
REST accepted and is RECOVERING with a count of 0, the station goes to LISTEN. -/
def State.begin (s : State) : State :=
  { s with
    station := .listen
    lease := { s.lease with durations := some s.config.durations }
    line := { LineUnit.reset with sampling := true, far := s.line.far, tracking := .recovering } }

/-- R156, R172: START is judged in CONFIG only; its response always has the check number. -/
def State.start (s : State) : State :=
  if s.station = .config then
    if s.config.failedCheck = 0 then s.begin.respond .ok [0]
    else s.respond .badConfig [octet s.config.failedCheck]
  else s.respond .wrongState [0]

/-- START (R172). -/
def execStart (s : State) : Host.Outcome State Fault Refusal :=
  .next (s.hostTake State.start)

/-! ### Requests -/

/-- R137 check 2: the states in which a SUBMIT is refused. -/
def StationState.refusesSubmit (x : StationState) : Bool :=
  x == .config || x == .parked || x == .halted

/-- R137: a SUBMIT accepted: the slot becomes QUEUED with its mode and zone set, and its CLAIM entry is entered. -/
def State.accept (k : Nat) (m : Mode) (zones : List Nat) (s : State) : State :=
  (s.updateSlot k fun b => { b.become .queued none with mode := some m, zones := zones }).request (.claim k)

/-- R137: the checks of SUBMIT in their order. -/
def State.submit (slot mode count zone1 zone2 zone3 zone4 : Byte) (s : State) : State :=
  if 7 < slot.toNat then s.respond .badRequest []
  else if s.station.refusesSubmit then s.respond .wrongState []
  else if (s.slotAt slot.toNat).state ≠ .free then s.respond .busy []
  else
    match submitRequest s.zoneCount mode count zone1 zone2 zone3 zone4 with
    | none => s.respond .badRequest []
    | some (m, zones) => (s.accept slot.toNat m zones).respond .ok []

/-- SUBMIT (R137). -/
def execSubmit (slot mode count zone1 zone2 zone3 zone4 : Byte) (s : State) : Host.Outcome State Fault Refusal :=
  .next (s.hostTake (State.submit slot mode count zone1 zone2 zone3 zone4))

/-- R109: whether the CLAIM of a tag is the frame on the line. -/
def State.claimOnLine (s : State) (k : Nat) : Bool :=
  s.outbound.entries.any fun e => e.kind == .claim k && e.onLine

/-- R109, R140: the host DROP command on a QUEUED slot. A held CLAIM is withdrawn and the slot freed; for a CLAIM on the
line the slot is marked drop-wanted and the withdrawal kept with the entry. R140 names no QUEUED slot without a CLAIM entry,
which only an own CLAIM TAKEN and read otherwise than it was sent leaves: it is freed and answered OK too (log 10, the model's
inference). -/
def State.dropQueued (k : Nat) (s : State) : State :=
  if (s.slotAt k).dropWanted then s.respond .already []
  else
    let asked := { s with outbound := s.outbound.withdraw (.claim k) }
    if s.claimOnLine k then (asked.updateSlot k fun b => { b with dropWanted := true }).respond .ok []
    else (asked.updateSlot k (Slot.become .free none)).respond .ok []

/-- R140: a WAITING or GRANTED slot becomes RELEASING and its DROP entry is entered. -/
def State.releaseSlot (k : Nat) (s : State) : State :=
  (s.updateSlot k (Slot.become .releasing none)).request (.drop k)

/-- R140: the host DROP command by the slot's state. -/
def State.hostDrop (slot : Byte) (s : State) : State :=
  if 7 < slot.toNat then s.respond .badRequest []
  else
    match (s.slotAt slot.toNat).state with
    | .free => s.respond .nothing []
    | .queued => s.dropQueued slot.toNat
    | .waiting => (s.releaseSlot slot.toNat).respond .ok []
    | .granted => (s.releaseSlot slot.toNat).respond .ok []
    | .releasing => s.respond .already []
    | .lost => s.respond .nothing []
    | .refused => s.respond .nothing []

/-- DROP (R140). -/
def execDrop (slot : Byte) (s : State) : Host.Outcome State Fault Refusal :=
  .next (s.hostTake (State.hostDrop slot))

/-- R146: CLEAR by the slot's state. -/
def State.hostClear (slot : Byte) (s : State) : State :=
  if 7 < slot.toNat then s.respond .badRequest []
  else
    match (s.slotAt slot.toNat).state with
    | .refused => (s.updateSlot slot.toNat (Slot.become .free none)).respond .ok []
    | .lost =>
      if s.linked slot.toNat then s.respond .linked []
      else (s.updateSlot slot.toNat (Slot.become .free none)).respond .ok []
    | .free => s.respond .nothing []
    | .queued => s.respond .nothing []
    | .waiting => s.respond .nothing []
    | .granted => s.respond .nothing []
    | .releasing => s.respond .nothing []

/-- CLEAR (R146). -/
def execClear (slot : Byte) (s : State) : Host.Outcome State Fault Refusal :=
  .next (s.hostTake (State.hostClear slot))

/-! ### Reads -/

/-- R159: the mode octet of a SLOT response. -/
def modeOctet (m : Option Mode) : Byte :=
  match m with
  | none => 0xFF
  | some .shared => 0
  | some .exclusive => 1

/-- R147, R159: the data octets of a SLOT response. -/
def slotOctets (b : Slot) : List Byte :=
  [b.state.code, reasonCode b.reason, modeOctet b.mode, octet b.zones.length] ++
    (b.zones.map octet ++ [0xFF#8, 0xFF#8, 0xFF#8, 0xFF#8]).take 4

/-- R147: the SLOT read clears the slot's changed flag. -/
def State.readSlot (slot : Byte) (s : State) : State :=
  if 7 < slot.toNat then s.respond .badRequest []
  else (s.updateSlot slot.toNat fun b => { b with changed := false }).respond .ok (slotOctets (s.slotAt slot.toNat))

/-- SLOT (R147). -/
def execSlot (slot : Byte) (s : State) : Host.Outcome State Fault Refusal :=
  .next (s.hostTake (State.readSlot slot))

/-- R159: the two octets of a record in a ZONE response. -/
def refOctets (r : RecordRef) : List Byte :=
  [octet (8 * r.owner + r.tag), octet (128 * r.mode.bit)]

/-- R28: the entry a ZONE read shows: the table's in SYNCED and HALTED, an empty one in every other state. -/
def State.shownZone (s : State) (z : Nat) : ZoneEntry :=
  if s.station.holdsTable then s.table.zoneAt z else ZoneEntry.empty

/-- R28, R159: the data octets of a ZONE response. -/
def zoneOctets (e : ZoneEntry) : List Byte :=
  [octet e.holders.length, octet e.waiters.length] ++ (e.holders.map refOctets).flatten ++
    (e.waiters.map refOctets).flatten

/-- R28: the ZONE read. -/
def State.readZone (zone : Byte) (s : State) : State :=
  if s.zoneCount ≤ zone.toNat then s.respond .badRequest []
  else s.respond .ok (zoneOctets (s.shownZone zone.toNat))

/-- ZONE (R28). -/
def execZone (zone : Byte) (s : State) : Host.Outcome State Fault Refusal :=
  .next (s.hostTake (State.readZone zone))

/-- R157: a bitmap shown to the host: the bit of a station number R or above reads 0. -/
def State.shownSet (s : State) (a : StationSet) : List Byte :=
  bitmapOctets (setOf fun k => a.contains k && decide (k < s.rosterSlots))

/-- R63, R157, R159: the data octets of a ROSTER response. -/
def State.rosterOctets (s : State) : List Byte :=
  [s.station.code] ++ s.shownSet s.roster.roster ++ s.shownSet s.roster.synced ++ [octet s.census.freeze.toNat] ++
    s.shownSet s.census.joiners ++ octetsOfWord s.table.sequence ++ [octet (s.roster.missesOf s.own)]

/-- R157: the ROSTER read. -/
def State.readRoster (s : State) : State :=
  s.respond .ok s.rosterOctets

/-- ROSTER (R157). -/
def execRoster (s : State) : Host.Outcome State Fault Refusal :=
  .next (s.hostTake State.readRoster)

/-- R159, R164: the data octets of an ATTENTION response. -/
def State.attentionOctets (s : State) : List Byte :=
  (match s.highestPending with
    | none => [0#8, 0#8]
    | some code => [octet code, s.sourceDetail code]) ++ octetsOfWord s.pendingWord

/-- R164: the ATTENTION read changes nothing. -/
def State.readAttention (s : State) : State :=
  s.respond .ok s.attentionOctets

/-- ATTENTION (R164). -/
def execAttention (s : State) : Host.Outcome State Fault Refusal :=
  .next (s.hostTake State.readAttention)

/-- R165: ACKNOWLEDGE by its operand and the source's state. -/
def State.acknowledge (source : Byte) (s : State) : State :=
  match s.attention.source source.toNat with
  | none => s.respond .badRequest []
  | some x =>
    if x.pending then
      ({ s with attention := s.attention.acknowledged source.toNat }).respond .ok []
    else s.respond .nothing []

/-- ACKNOWLEDGE (R165). -/
def execAcknowledge (source : Byte) (s : State) : Host.Outcome State Fault Refusal :=
  .next (s.hostTake (State.acknowledge source))

/-- R157, R159: the fixed identity. -/
def identOctets : List Byte :=
  [0x47, 0x5A, 0x32, 0x34]

/-- R157: IDENT in every state. -/
def State.readIdent (s : State) : State :=
  s.respond .ok identOctets

/-- IDENT (R157). -/
def execIdent (s : State) : Host.Outcome State Fault Refusal :=
  .next (s.hostTake State.readIdent)

/-! ### LEAVE and RESTART -/

/-- R99: the host LEAVE command. -/
def State.hostLeave (s : State) : State :=
  if s.station = .synced then
    if s.outbound.holds .leave then s.respond .already []
    else (s.request .leave).respond .ok []
  else s.respond .wrongState []

/-- LEAVE (R99). -/
def execLeave (s : State) : Host.Outcome State Fault Refusal :=
  .next (s.hostTake State.hostLeave)

/-- R156: RESTART acts in every state but CONFIG and LISTEN. -/
def StationState.restarts (x : StationState) : Bool :=
  x != .config && x != .listen

/-- R175, R176: the restart: an own frame on the line is broken off uncounted and its drop-wanted slot settled, then
everything of the cell is given up, and the station goes to LISTEN. -/
def State.restartNow (s : State) : State :=
  State.raiseState { ((s.endAttempt false).giveUp .restarted).recover with station := .listen }

/-- R156, R175: RESTART by the station state. -/
def State.hostRestart (s : State) : State :=
  if s.station.restarts then s.restartNow.respond .ok [] else s.respond .wrongState []

/-- RESTART (R175). -/
def execRestart (s : State) : Host.Outcome State Fault Refusal :=
  .next (s.hostTake State.hostRestart)

/-! ### Transactions without a command -/

/-- R152: an unknown code or a wrong count is answered UNKNOWN and has no effect. -/
def State.answerUnknown (_command : Byte) (_operands : List Byte) (s : State) : State :=
  s.respond .unknown []

/-- UNKNOWN_COMMAND (R152). -/
def execUnknownCommand (command : Byte) (operands : List Byte) (s : State) : Host.Outcome State Fault Refusal :=
  .next (s.hostTake (State.answerUnknown command operands))

/-- TRANSACTION_NOT_TAKEN (R152): no effect on any block; what was received is discarded. -/
def execTransactionNotTaken (_octets : List Byte) (_partialBits : List Bool) (s : State) :
    Host.Outcome State Fault Refusal :=
  .next (s.hostTake State.breakTransaction)

end Sys2Proof.Machine
end

