-- ==== Sys2Proof/Machine/Reset.lean ====
section
/-! DEFINITION. Machine/Reset.lean: cold reset (R179, R180). The queue and the level the rest of the line shows are not
the station's own and stay (logs 7, 18). -/

namespace Sys2Proof.Machine

/-- R179, R180: every block at its cold-reset values. -/
def State.coldValues (s : State) : State :=
  { State.reset with line := { LineUnit.reset with far := s.line.far }, pending := s.pending }

/-- COLD_RESET (R179): RESETN is low from here on. -/
def execColdReset (s : State) : Host.Outcome State Fault Refusal :=
  .next { s.coldValues with resetnLow := true }

/-- R154, R180: RESETN rises: the tick counter starts from 0, and a transaction under way at that moment is ignored. -/
def State.releaseReset (csnLow : Bool) (s : State) : State :=
  if s.resetnLow then
    { s with
      resetnLow := false
      lease := { s.lease with divider := 0, ticks := 0 }
      port := if csnLow then .ignoring else .idle }
  else s

/-- RESETN_RELEASE (R180). -/
def execResetnRelease (csnLow : Bool) (s : State) : Host.Outcome State Fault Refusal :=
  .next (s.releaseReset csnLow)

end Sys2Proof.Machine
end

