-- ==== Sys2Proof/Machine/Dispatch.lean ====
section
/-! DEFINITION. Machine/Dispatch.lean: the meaning of every command, one arm per constructor. -/

namespace Sys2Proof.Machine

def exec (i : Instr) (s : State) : Host.Outcome State Fault Refusal :=
  match i with
  | .configure n r z q l g e t m => Sys2Proof.Machine.execConfigure n r z q l g e t m s
  | .start => Sys2Proof.Machine.execStart s
  | .submit k m c a b d e => Sys2Proof.Machine.execSubmit k m c a b d e s
  | .drop k => Sys2Proof.Machine.execDrop k s
  | .clear k => Sys2Proof.Machine.execClear k s
  | .slot k => Sys2Proof.Machine.execSlot k s
  | .zone z => Sys2Proof.Machine.execZone z s
  | .roster => Sys2Proof.Machine.execRoster s
  | .attention => Sys2Proof.Machine.execAttention s
  | .acknowledge a => Sys2Proof.Machine.execAcknowledge a s
  | .leave => Sys2Proof.Machine.execLeave s
  | .restart => Sys2Proof.Machine.execRestart s
  | .ident => Sys2Proof.Machine.execIdent s
  | .unknownCommand c operands => Sys2Proof.Machine.execUnknownCommand c operands s
  | .transactionNotTaken octets bits => Sys2Proof.Machine.execTransactionNotTaken octets bits s
  | .coldReset => Sys2Proof.Machine.execColdReset s
  | .resetnRelease csnLow => Sys2Proof.Machine.execResetnRelease csnLow s
  | .frameStart quiet => Sys2Proof.Machine.execFrameStart quiet s
  | .keyMark quiet => Sys2Proof.Machine.execKeyMark quiet s
  | .arbitrationLoss => Sys2Proof.Machine.execArbitrationLoss s
  | .bitError => Sys2Proof.Machine.execBitError s
  | .frameBrokenOff cause => Sys2Proof.Machine.execFrameBrokenOff cause s
  | .identityClash cells => Sys2Proof.Machine.execIdentityClash cells s
  | .frameEnd obs => Sys2Proof.Machine.execFrameEnd obs s
  | .stuck => Sys2Proof.Machine.execStuck s
  | .lineNormal => Sys2Proof.Machine.execLineNormal s
  | .frameAware => Sys2Proof.Machine.execFrameAware s
  | .roundGap => Sys2Proof.Machine.execRoundGap s
  | .peerLeaseReached peer => Sys2Proof.Machine.execPeerLeaseReached peer s
  | .ownPulseDeadlineReached => Sys2Proof.Machine.execOwnPulseDeadlineReached s
  | .fence => Sys2Proof.Machine.execFence s
  | .censusWindowReached => Sys2Proof.Machine.execCensusWindowReached s

end Sys2Proof.Machine
end

