-- ==== Sys2Proof/Machine/Pins.lean ====
section
/-! DEFINITION. Machine/Pins.lean: the edges of CSN and SCK on the host port (R151, R152): the octets of a transaction
become a command, taken at the edge that completes it (log 20). -/

namespace Sys2Proof.Machine

/-- The station after a command taken at this moment. -/
def State.perform (i : Instr) (s : State) : State :=
  match exec i s with
  | .next t => t
  | .fault _ => s
  | .refused _ => s

/-- R151, R154: a falling edge of CSN begins a transaction. CSN was high before it, so no earlier one is open. -/
def State.csnFall (s : State) : State :=
  if s.resetnLow then s else { s with port := .receiving [] [] }

/-- R151, R152: a rising edge of CSN ends the transaction; one whose command was not taken ends as such. -/
def State.csnRise (s : State) : State :=
  if s.resetnLow then s
  else
    match s.port with
    | .idle => s
    | .receiving octets bits => s.perform (.transactionNotTaken octets bits)
    | .kept _ _ => { s with port := .idle }
    | .ignoring => { s with port := .idle }

/-- R152: the octets received complete the command. -/
def commandComplete (octets : List Byte) : Bool :=
  match octets with
  | [] => false
  | c :: rest => decide (declaredCount c ≤ rest.length)

/-- R151, R152: a rising edge of SCK samples SDI. The edge that completes the last operand octet takes the command, and
SDI is ignored from then on. SCK is ignored while CSN is high. -/
def State.sckRise (sdi : Bool) (s : State) : State :=
  if s.resetnLow then s
  else
    match s.port with
    | .idle => s
    | .ignoring => s
    | .kept _ _ => s
    | .receiving octets bits =>
      if bits.length + 1 < 8 then { s with port := .receiving octets (bits ++ [sdi]) }
      else
        let complete := octets ++ [octetOfBits (bits ++ [sdi])]
        if commandComplete complete then s.perform (transactionCommand complete [])
        else { s with port := .receiving complete [] }

/-- R151: a falling edge of SCK changes SDO: the next bit of the kept response is presented. -/
def State.sckFall (s : State) : State :=
  if s.resetnLow then s
  else
    match s.port with
    | .idle => s
    | .ignoring => s
    | .receiving _ _ => s
    | .kept response n => { s with port := .kept response (n + 1) }

end Sys2Proof.Machine
end

