-- ==== Sys2Proof/Safety.lean ====
section
/-! DEFINITION. Safety.lean: what the rules say of every state of a station between two steps, as predicates the claims
use: the zone table (R1 to R12), the slots (R134), the outbound set (R103, R104, R114), the roster (R49, R52), the census
state (R81), the line (R168). -/

namespace Sys2Proof.Machine

/-! ### The zone table -/

/-- R1: the fields of a record lie in their ranges. -/
abbrev Record.Fits (r : Record) : Prop :=
  r.owner < Config.stationNumbers ∧ r.tag < Config.slotCount ∧ 1 ≤ r.zones.length ∧ r.zones.length ≤ 4 ∧
    r.zones.Nodup ∧ ∀ z ∈ r.zones, z < Config.zoneEntries

/-- R6: a GRANTED record stands among the holders of every zone of its set. -/
def Record.holdsZone (r : Record) (z : Nat) : Bool :=
  r.status == .granted && r.zones.contains z

/-- R6: a WAITING record stands in the waiter queue of every zone of its set. -/
def Record.waitsFor (r : Record) (z : Nat) : Bool :=
  r.status == .waiting && r.zones.contains z

/-- R6, R7: the zone entries that a request list calls for, every list in request-list order. -/
def entriesFor (requests : List Record) : List ZoneEntry :=
  (List.range Config.zoneEntries).map fun z =>
    { holders := (requests.filter fun r => r.holdsZone z).map Record.ref
      waiters := (requests.filter fun r => r.waitsFor z).map Record.ref }

/-- R2: no two records have the same owner and tag. -/
abbrev Table.Distinct (t : Table) : Prop :=
  (t.requests.map fun r => (r.owner, r.tag)).Nodup

/-- R7: where two records share a zone, the newer holds it only if the older does. -/
abbrev Table.OldestFirst (t : Table) : Prop :=
  t.requests.Pairwise fun a b => (∃ z ∈ a.zones, z ∈ b.zones) → a.status = .waiting → b.status = .waiting

/-- R4: a zone's holders are none, one EXCLUSIVE record, or one to eight SHARED records; at most eight wait. -/
abbrev ZoneEntry.Capacity (e : ZoneEntry) : Prop :=
  (e.holders.length ≤ 1 ∨ ∀ h ∈ e.holders, h.mode = .shared) ∧ e.holders.length ≤ Config.maxHolders ∧
    e.waiters.length ≤ Config.maxWaiters

/-- R12: no WAITING record is grantable in every zone of its set. -/
abbrev Table.NoneGrantable (t : Table) : Prop :=
  ∀ r ∈ t.requests, t.grantable r = false

/-- R1, R2, R4, R6, R7: the table between the removal of records and the grant pass. -/
abbrev Table.Sound (t : Table) : Prop :=
  (∀ r ∈ t.requests, r.Fits) ∧ t.Distinct ∧ t.requests.length ≤ Config.maxRecords ∧
    t.zones = entriesFor t.requests ∧ t.OldestFirst ∧ ∀ e ∈ t.zones, e.Capacity

/-- R1, R2, R4, R6, R7, R12: the table after every frame end. -/
abbrev Table.Wf (t : Table) : Prop :=
  t.Sound ∧ t.NoneGrantable

/-! ### The station -/

/-- R170, R172: a station that has left CONFIG runs with a configuration that START accepted. -/
abbrev State.ConfigFits (s : State) : Prop :=
  s.station ≠ .config → s.config.failedCheck = 0

/-- R13, R27: the table is clear in every state but SYNCED and HALTED. -/
abbrev State.TableWhere (s : State) : Prop :=
  s.station.holdsTable = false → s.table = Table.cleared

/-- R134: the fields that a slot's state calls for. -/
abbrev Slot.Fits (zoneCount : Nat) (b : Slot) : Prop :=
  (b.state = .free → b.mode = none ∧ b.zones = []) ∧
  (b.state ≠ .free → b.mode.isSome = true ∧ zonesFit zoneCount b.zones = true) ∧
  (b.reason.isSome = true ↔ b.state = .lost ∨ b.state = .refused) ∧
  (b.dropWanted = true → b.state = .queued)

/-- R134, R171: eight slots, each with the fields its state calls for, and all FREE in CONFIG. -/
abbrev State.SlotsFit (s : State) : Prop :=
  s.slots.length = Config.slotCount ∧ (∀ b ∈ s.slots, b.Fits s.zoneCount) ∧
    (s.station = .config → ∀ b ∈ s.slots, b.state = .free)

/-- R103, R104, R114: no two entries answer one request, at most one is on the line, only that one can have a
withdrawal waiting, every retry count is below T, and there is no entry in CONFIG. -/
abbrev State.OutboundFits (s : State) : Prop :=
  (s.outbound.entries.Pairwise fun a b => a.kind.answers b.kind = false) ∧
  (s.outbound.entries.filter fun e => e.onLine).length ≤ 1 ∧
  (∀ e ∈ s.outbound.entries, e.withdrawn = true → e.onLine = true) ∧
  (∀ e ∈ s.outbound.entries, e.retries < s.retryLimit) ∧
  (s.station = .config → s.outbound.entries = [])

/-- R49: the roster is empty in every state but SYNCING, SYNCED and HALTED. -/
def StationState.keepsRoster (x : StationState) : Bool :=
  x == .syncing || x == .synced || x == .halted

/-- R49, R52: the roster in station-number order, each number once and with a miss count below E; the synced set within
it; the station itself a member in SYNCING and SYNCED; nothing outside SYNCING, SYNCED and HALTED. -/
abbrev State.RosterFits (s : State) : Prop :=
  s.roster.roster = setOf (fun k => s.roster.roster.contains k) ∧
  (∀ m ∈ s.roster.members, m.misses < s.evictAt) ∧
  s.roster.synced = setInter s.roster.synced s.roster.roster ∧
  (s.station.tracksCensus = true → s.isMember s.own = true) ∧
  (s.station.keepsRoster = false → s.roster.members = [] ∧ s.roster.synced = [])

/-- R81, R82: with the freeze off there is no designated sender, a designated sender is a member, and outside SYNCING,
SYNCED and HALTED the census state is cleared. -/
abbrev State.CensusFits (s : State) : Prop :=
  (s.census.freeze = false → s.census.designated = none) ∧
  (s.census.designated.all fun d => s.isMember d) = true ∧
  (s.station.keepsRoster = false → s.census = Census.cleared)

/-- R168: the station drives the line only in JOINING, SYNCING and SYNCED, and never while the line is STUCK. -/
abbrev State.SilentWhere (s : State) : Prop :=
  (s.station.mayDrive = false ∨ s.line.condition = .stuck) → s.line.ltx = .rest

/-- R69, R78, R85, R87, R94, R99, R119: the station states in which an entry of a kind is held. -/
def EntryKind.heldIn (k : EntryKind) (x : StationState) : Bool :=
  match k with
  | .expire _ => x == .synced || x == .halted
  | .leave => x == .synced || x == .halted
  | .join _ => x == .joining || x == .syncing
  | .census _ => x.tracksCensus || x == .halted
  | .drop _ => true
  | .claim _ => true
  | .pulse => x == .synced || x == .halted

/-- R105: the station states in which the frame of an entry of a kind can be on the line. -/
def EntryKind.sentIn (k : EntryKind) (x : StationState) : Bool :=
  match k with
  | .join _ => x == .joining || x == .syncing
  | .census _ => x.tracksCensus
  | .expire _ => x == .synced
  | .leave => x == .synced
  | .drop _ => x == .synced
  | .claim _ => x == .synced
  | .pulse => x == .synced

/-- R103, R105, R119: every entry is held, and its frame on the line, only in a station state that allows it. -/
abbrev State.EntriesWhere (s : State) : Prop :=
  ∀ e ∈ s.outbound.entries, e.kind.heldIn s.station = true ∧ (e.onLine = true → e.kind.sentIn s.station = true)

/-- R66: a SYNCED station keeps one lease, running or reached, for every other station that owns records; no other station
state keeps any. -/
abbrev State.LeasesFit (s : State) : Prop :=
  s.lease.leases.map Lease.peer =
      (if s.station = .synced then setOf fun k => k != s.own && decide (0 < s.table.countOf k) else []) ∧
    ∀ l ∈ s.lease.leases, l.timer ≠ .inactive

/-- What holds of a station between two steps. -/
abbrev State.Inv (s : State) : Prop :=
  s.ConfigFits ∧ s.table.Wf ∧ s.TableWhere ∧ s.SlotsFit ∧ s.OutboundFits ∧ s.RosterFits ∧ s.CensusFits ∧ s.SilentWhere ∧
    s.EntriesWhere ∧ s.LeasesFit

/-! ### What undisturbed frame ends keep besides -/

/-- Section 8.2 of 08, R74, R134, R136: the record and the entries that a slot's state calls for: a WAITING or GRANTED slot
has its record with that status, a RELEASING slot its record and its DROP entry, a QUEUED slot its CLAIM entry (withdrawn on
the line exactly where the slot is drop-wanted), a LOST slot a DROP entry exactly where it is linked; and no other. -/
def State.slotAgrees (s : State) (k : Nat) : Bool :=
  let b := s.slotAt k
  let record := s.table.find s.own k
  let stands : Status → Bool := fun x =>
    record.any fun r => r.status == x && some r.mode == b.mode && r.zones == b.zones
  let claim := s.outbound.entries.any fun e => e.kind == .claim k
  let claimed := s.outbound.entries.any fun e => e.kind == .claim k && e.withdrawn == b.dropWanted
  let drop := s.outbound.entries.any fun e => e.kind == .drop k
  match b.state with
  | .free => record.isNone && !claim && !drop
  | .queued => record.isNone && claimed && !drop
  | .waiting => stands .waiting && !claim && !drop
  | .granted => stands .granted && !claim && !drop
  | .releasing => record.isSome && !claim && drop
  | .lost => !claim && record.isSome == drop
  | .refused => record.isNone && !claim && !drop

/-- Section 8.2 of 08: every slot agrees with the table and the outbound set, and every CLAIM and DROP entry is one of the
eight slots'. -/
abbrev State.SlotsAgree (s : State) : Prop :=
  (∀ k, k < Config.slotCount → s.slotAgrees k = true) ∧
    ∀ e ∈ s.outbound.entries, (∃ k, k < Config.slotCount ∧ (e.kind = .claim k ∨ e.kind = .drop k)) ∨
      (e.kind.frameClass ≠ 4 ∧ e.kind.frameClass ≠ 5)

/-- R2: every record's owner is a member. -/
abbrev State.OwnersAreMembers (s : State) : Prop :=
  ∀ r ∈ s.table.requests, s.isMember r.owner = true

/-- R81, R82: the bounds of the census state: joiners and passed-over stations are members, progress is 0 to 11 and below
the run part count of 1 to 12; with the freeze off all is at its cleared value, with the freeze on there is a designated
sender. -/
abbrev State.CensusBounds (s : State) : Prop :=
  (∀ j ∈ s.census.joiners, s.isMember j = true) ∧ (∀ j ∈ s.census.passOver, s.isMember j = true) ∧
  s.census.progress ≤ 11 ∧
  (s.census.runCount.all fun n => decide (1 ≤ n ∧ n ≤ 12 ∧ s.census.progress < n)) = true ∧
  (s.census.runCount = none → s.census.progress = 0) ∧
  (s.census.joiners = [] → s.census.passOver = [] ∧ s.census.runCount = none) ∧
  (s.census.joiners ≠ [] → s.census.designated.isSome = true)

/-- R45, R46, R108: a frame end as undisturbed samples give it: a TAKEN frame was received GOOD, drew no objection here and
had every member's ack; a JOIN's sender did not stand; and an own frame was read with its own number and its entry's class,
a CLAIM or DROP with the content it was sent with too. -/
abbrev State.SoundEnd (s : State) (obs : FrameObs) : Prop :=
  obs.taken = true →
    obs.cells.reception = .good ∧ s.objection obs.cells = none ∧ (∀ k ∈ s.roster.roster, k ∈ obs.rollCall) ∧
    obs.cells.sender ∉ obs.standing ∧
    (s.ownAttempt obs.cells = true → obs.cells.sender = s.own ∧ ∀ e ∈ s.outbound.entries, e.onLine = true →
      obs.cells.frameClass = e.kind.frameClass ∧
      (∀ k, k < Config.slotCount → e.kind = .claim k →
        ((s.slotAt k).mode.map fun m => Frame.claim k m (s.slotAt k).zones) = s.parse obs.cells) ∧
      (∀ k, k < Config.slotCount → e.kind = .drop k → s.parse obs.cells = some (.drop k)))

/-- R122, R124: the frame end that a step from `s` to `t` brings: the operand of a FRAME_END at the front of the queue, or,
with no command waiting, the frame received, where that step reads the last bit of it, at sample 10 and with the level
accepted by then. -/
def State.ending (s t : State) : Option FrameObs :=
  match s.pending with
  | .frameEnd obs :: _ => some obs
  | _ :: _ => none
  | [] =>
    match s.line.rx with
    | none => none
    | some x =>
      if s.line.tracking = .frame ∧ s.line.phase % 16 = 9 ∧ t.line.phase = 10 then
        if x.cells.frameClass ≠ 2 ∧ x.position = x.cellBits + 2 + s.rosterSlots then
          some ({ x with verdict2 := t.line.accepted }).observed
        else if x.cells.frameClass = 2 ∧ x.position = x.cellBits + 3 + 2 * s.rosterSlots then
          some ({ x with
            standing := if t.line.accepted = Level.drive then setInsert (s.rosterSlots - 1) x.standing else x.standing }).observed
        else none
      else none

/-- R45, R92: a step to `t` in which no sample is disturbed, and which installs, if it installs a table, one in which
every owner is a member and this station owns nothing. -/
abbrev State.SoundStep (s t : State) : Prop :=
  (∀ obs, s.ending t = some obs → s.SoundEnd obs) ∧
    (s.station = .syncing → t.station = .synced →
      ∀ r ∈ t.table.requests, t.isMember r.owner = true ∧ r.owner ≠ t.own)

/-! ### What ends a station's part in the cell -/

/-- R174, R77, R119, R145, R150: what a self-restart with this cause leaves of a station that stood as `s`: the cell given up and
the timers inactive, WAITING and GRANTED slots LOST with reason OUT, RELEASING ones FREE and drop-wanted clear, the CLAIM entries of QUEUED
slots in their entry order with counts 0, the spent flag clear, LISTEN, RECOVERING with LTX released, and OUT raised. -/
abbrev State.SelfRestarts (s : State) (cause : Byte) (t : State) : Prop :=
  let settle : Slot → Slot := fun b => match b.state with
    | .waiting => { b with state := .lost, reason := some .out, changed := true, dropWanted := false }
    | .granted => { b with state := .lost, reason := some .out, changed := true, dropWanted := false }
    | .releasing => { state := .free, mode := none, zones := [], reason := none, changed := true, dropWanted := false }
    | _ => { b with dropWanted := false }
  let kept := (s.outbound.entries.filter fun e => match e.kind with
    | .claim k => (s.slotAt k).state == .queued
    | _ => false).map fun e => { kind := e.kind, retries := 0, onLine := false, withdrawn := false }
  t.station = .listen ∧ t.table = Table.cleared ∧ t.census = Census.cleared ∧
  t.roster = { members := [], synced := [], clash := false } ∧
  t.lease = { s.lease with leases := [], pulse := .inactive, selfGuard := .inactive, window := .inactive } ∧
  t.slots = s.slots.map settle ∧ t.outbound = { entries := kept, spent := false, sending := [] } ∧
  t.line = { s.line with tracking := .recovering, recoverRun := 0, ltx := .rest, rx := none } ∧ t.judgement = none ∧
  t.config = s.config ∧
  t.attention.out = { pending := true, detail := cause } ∧ t.attention.halt = s.attention.halt ∧
  t.attention.line = s.attention.line ∧ t.attention.state = s.attention.state

/-- R115, R119, R177: what an exhausted JOIN leaves of a station that stood as `s`: HALTED with HALT raised for
JOIN_FAILED, the JOIN entries gone and every other entry kept, the leases, the pulse deadline and the window inactive, the
staging list empty, LTX released; the table, the rest of the census state and the other sources as they stood. -/
abbrev State.JoinFails (s t : State) : Prop :=
  t.station = .halted ∧ t.attention.halt = { pending := true, detail := 2 } ∧ t.attention.out = s.attention.out ∧
  t.attention.line = s.attention.line ∧ t.attention.state = s.attention.state ∧ t.attention.roster = s.attention.roster ∧
  t.table = s.table ∧ t.census = { s.census with staging := [] } ∧
  t.lease.leases = [] ∧ t.lease.pulse = .inactive ∧ t.lease.window = .inactive ∧
  t.slots = s.slots.map (fun b => { b with dropWanted := false }) ∧
  t.outbound.entries = s.outbound.entries.filter (fun x => !x.kind.isJoin) ∧ t.outbound.spent = s.outbound.spent ∧
  t.line.ltx = .rest ∧ t.config = s.config

/-- R69, R73, R87, R94, R112: an own entry on the line is moot at a VOID frame end that evicts these stations: an EXPIRE
whose target owns no record that stays, a PULSE of a station without records, a CENSUS part and a SYNCING station's JOIN
whose run the eviction resets or ends. -/
def State.mootAtVoid (s : State) (out : StationSet) (k : EntryKind) : Bool :=
  match k with
  | .expire target => !s.table.requests.any fun r => r.owner == target && !out.contains target
  | .pulse => !s.table.requests.any fun r => r.owner == s.own
  | .census _ => !out.isEmpty && s.census.freeze
  | .join _ => !out.isEmpty && s.station == .syncing && s.census.freeze
  | .leave => false
  | .drop _ => false
  | .claim _ => false

/-- R141: these slots after the end of the attempt on the line, whatever its outcome but TAKEN: the slot of a drop-wanted
CLAIM whose withdrawal waits is FREE. -/
def State.freedWithAttempt (s : State) (slots : List Slot) : List Slot :=
  match s.outbound.onLine with
  | none => slots
  | some e =>
    match e.kind with
    | .claim k =>
      if e.withdrawn = true ∧ (s.slotAt k).dropWanted = true then
        slots.set k { state := .free, mode := none, zones := [], reason := none, changed := true, dropWanted := false }
      else slots
    | _ => slots

/-- R112: the station's own attempt with this entry does not exhaust it at a VOID frame end that evicts these stations. -/
abbrev State.AttemptStays (s : State) (out : StationSet) (e : Entry) : Prop :=
  e.withdrawn = true ∨ s.mootAtVoid out e.kind = true ∨ e.retries + 1 < s.retryLimit

/-! ### What a station hears -/

/-- R45: the frame on the line ends TAKEN at this station, was received GOOD with this content, and every member's slot
was sampled DRIVE. -/
abbrev State.HearsTaken (s : State) (obs : FrameObs) (f : Frame) : Prop :=
  s.line.tracking = .frame ∧ obs.taken = true ∧ obs.cells.reception = .good ∧ s.parse obs.cells = some f ∧
    ∀ k ∈ s.roster.roster, k ∈ obs.rollCall

/-- R38, R109: the frame on the line is another station's, and this station abandoned no attempt of its own in it. -/
abbrev State.HearsPeer (s : State) (obs : FrameObs) : Prop :=
  obs.cells.sender ≠ s.own ∧ s.outbound.onLine = none ∧ s.gaveUpAttempt = false

/-- R38, R47, R60: no attempt of this station is on the line, and the frame is no identity clash: a peer's frame, or one
not received GOOD, of whatever number and also where this station abandoned its attempt in it. -/
abbrev State.HearsOther (s : State) (obs : FrameObs) : Prop :=
  s.outbound.onLine = none ∧ (s.HearsPeer obs ∨ obs.cells.reception = .error)

/-- R109: the frame on the line is this station's own attempt with this entry, its key read as it was sent. -/
abbrev State.HearsOwn (s : State) (obs : FrameObs) (k : EntryKind) : Prop :=
  s.outbound.onLine.map Entry.kind = some k ∧ obs.cells.sender = s.own ∧ obs.cells.frameClass = k.frameClass

/-- R47, R128, R129: this station's own attempt with this entry is on the line to the end of the frame, neither lost nor
abandoned: no bit of its key that it sent as REST was read as DRIVE. The key may have been read otherwise than it was sent,
with a driven bit read REST. -/
abbrev State.AttemptRuns (s : State) (obs : FrameObs) (k : EntryKind) : Prop :=
  s.outbound.onLine.map Entry.kind = some k ∧
    ∀ i, i < 8 → (keyOctet k.frameClass s.own).getLsbD i = true → obs.cells.key.getLsbD i = true

/-- R51: a member after the roll-call of a frame end. -/
def Member.afterRollCall (rollCall : StationSet) (m : Member) : Member :=
  { m with misses := if rollCall.contains m.number then 0 else m.misses + 1 }

/-- R52, R53: the members, this station's own number included, whose miss count this roll-call brings to E. -/
def State.reachingE (s : State) (rollCall : StationSet) : StationSet :=
  ((s.roster.members.map (Member.afterRollCall rollCall)).filter fun m => decide (s.evictAt ≤ m.misses)).map Member.number

/-- R139: this station's slots after a change of the table that granted these records: a WAITING slot whose record is
granted becomes GRANTED with its changed flag set, and every other slot stays (a FREE, QUEUED or REFUSED one by log 37). -/
def State.slotsAfterGrants (s : State) (granted : List RecordRef) : List Slot :=
  s.slots.zipIdx.map fun p =>
    if p.1.state = .waiting ∧ granted.any (fun r => r.owner == s.own && r.tag == p.2) = true then
      { p.1 with state := .granted, reason := none, changed := true, dropWanted := false }
    else p.1

/-- R14, R11: the table without the records that meet a test, after the grant pass. -/
def Table.without (t : Table) (gone : Nat → Nat → Bool) : Table :=
  (t.remove gone).grantPass.1

/-- R15: the records that the grant pass grants once those that meet a test are gone. -/
def Table.grantedWithout (t : Table) (gone : Nat → Nat → Bool) : List RecordRef :=
  (t.remove gone).grantPass.2

/-- R159: the thirteen host commands. -/
def hostCommandOf (i : Instr) : Bool :=
  match i with
  | .configure _ _ _ _ _ _ _ _ _ => true
  | .start => true
  | .submit _ _ _ _ _ _ _ => true
  | .drop _ => true
  | .clear _ => true
  | .slot _ => true
  | .zone _ => true
  | .roster => true
  | .attention => true
  | .acknowledge _ => true
  | .leave => true
  | .restart => true
  | .ident => true
  | .unknownCommand _ _ => false
  | .transactionNotTaken _ _ => false
  | .coldReset => false
  | .resetnRelease _ => false
  | .frameStart _ => false
  | .keyMark _ => false
  | .arbitrationLoss => false
  | .bitError => false
  | .frameBrokenOff _ => false
  | .identityClash _ => false
  | .frameEnd _ => false
  | .stuck => false
  | .lineNormal => false
  | .frameAware => false
  | .roundGap => false
  | .peerLeaseReached _ => false
  | .ownPulseDeadlineReached => false
  | .fence => false
  | .censusWindowReached => false

end Sys2Proof.Machine
end

