-- ==== Sys2Proof/WellFormed.lean ====
section
/-! DEFINITION. WellFormed.lean: the operands that a command of the queue can carry on this hardware. The meanings are
total and do not rest on these checks. -/

namespace Sys2Proof

/-- The station numbers of a picture, listed in ascending order without repeats, each a number a key can carry. -/
def StationSet.wellFormed (s : StationSet) : Bool :=
  s == (List.range Config.stationNumbers).filter (fun k => s.contains k)

/-- R31, R36: the cells of a frame that was not broken off: the length cell carries the number of body octets, and at
most 40. -/
def FrameCells.wellFormed (c : FrameCells) : Bool :=
  c.body.length == c.length.toNat && decide (c.length.toNat ≤ Config.maxBody)

/-- R46: only a JOIN (class 2) has a standing call; the pictures are sets of station numbers. -/
def FrameObs.wellFormed (o : FrameObs) : Bool :=
  o.cells.wellFormed && StationSet.wellFormed o.rollCall && StationSet.wellFormed o.standing &&
    (o.cells.key.toNat / 32 == 2 || o.standing.isEmpty)

/-- The operands each command can carry. -/
def Instr.wellFormed (i : Instr) : Bool :=
  match i with
  | .configure _ _ _ _ _ _ _ _ _ => true
  | .start => true
  | .submit _ _ _ _ _ _ _ => true
  | .drop _ => true
  | .clear _ => true
  | .slot _ => true
  | .zone _ => true
  | .roster => true
  | .attention => true
  | .acknowledge _ => true
  | .leave => true
  | .restart => true
  | .ident => true
  | .unknownCommand c operands =>
    operands.length == declaredCount c && operandCount (commandCode c) != some (declaredCount c)
  | .transactionNotTaken octets partialBits =>
    decide (partialBits.length < 8) &&
      (match octets with
        | [] => true
        | c :: rest => decide (rest.length < declaredCount c))
  | .coldReset => true
  | .resetnRelease _ => true
  | .frameStart quiet => decide (Config.settleGap ≤ quiet ∧ quiet ≤ Config.roundGap)
  | .keyMark quiet => decide (quiet ≤ Config.roundGap)
  | .arbitrationLoss => true
  | .bitError => true
  | .frameBrokenOff _ => true
  | .identityClash cells => cells.wellFormed
  | .frameEnd obs => obs.wellFormed
  | .stuck => true
  | .lineNormal => true
  | .frameAware => true
  | .roundGap => true
  | .peerLeaseReached peer => decide (peer < Config.stationNumbers)
  | .ownPulseDeadlineReached => true
  | .fence => true
  | .censusWindowReached => true

end Sys2Proof
end

