-- ==== Sys2Proof/Certificates/Slice0/Obligations.lean ====
section
/-! DEFINITION. Certificates/Slice0/Obligations.lean: the statements for the provers, one definition each. Their titles,
rules and tiers stand in OBLIGATIONS.json. -/

open Sys2Proof Sys2Proof.Machine

/-! ### Steps and time -/

/-- A command at the front of the queue runs as exec, with the queue's rest (logs 1 and 3). -/
def Obligations.StepRunsFrontCommand : Prop :=
  ∀ (c : Instr) (rest : List Instr) (s : State), step { s with pending := c :: rest } = exec c { s with pending := rest }

/-- R64, R120: with no command waiting a step is one CLKIN cycle (log 1, the model's choice): the tick counter divides
CLKIN by 1600, and from START on the samples divide it by 16, 8, 4 or 2, whatever the line and the station do in that
cycle; nothing moves while RESETN is low, and no sample comes before START. A cycle that completes no tick moves the tick
divider, and at a sampling station the sample divider, by 1 and nothing else; where the sample period is complete, it is
the sample with the sample divider back at 0. The cycle that completes a tick is in TimersReachTheirTick. -/
def Obligations.ClkinDividesIntoTicksAndSamples : Prop :=
  ∀ s : State, s.pending = [] →
    (s.resetnLow = true → step s = .next s) ∧
    (s.resetnLow = false → s.lease.divider + 1 < 1600 →
      let counted : State := { s with lease := { s.lease with divider := s.lease.divider + 1 } }
      (s.line.sampling = false → step s = .next counted) ∧
      (s.line.sampling = true → s.line.divider + 1 < 16 / 2 ^ s.config.rate.toNat →
        step s = .next { counted with line := { s.line with divider := s.line.divider + 1 } }) ∧
      (s.line.sampling = true → 16 / 2 ^ s.config.rate.toNat ≤ s.line.divider + 1 →
        step s = .next ({ counted with line := { s.line with divider := 0 } }).sample)) ∧
    (s.resetnLow = false → s.lease.divider < 1600 →
      ∃ t, step s = .next t ∧
        t.lease.divider = (if s.lease.divider + 1 = 1600 then 0 else s.lease.divider + 1) ∧
        t.lease.ticks = (if s.lease.divider + 1 = 1600 then s.lease.ticks + 1 else s.lease.ticks) ∧
        (s.line.sampling = true →
          t.line.divider = if s.line.divider + 1 < 16 / 2 ^ s.config.rate.toNat then s.line.divider + 1 else 0) ∧
        (s.line.sampling = false → t.line = s.line) ∧
        t.lease.durations = s.lease.durations ∧ t.config = s.config ∧ t.port = s.port ∧ t.resetnLow = false ∧
        t.pending = [])

/-- R65, R170: from START to the next cold reset no command changes the configuration or the durations; R64: none but
a cold reset and its release changes the tick counter; R153, R154: no event of the line and no deadline touches the
transaction on the host port, its kept response or RESETN. Every command completes and leaves the queue behind it as it
is, a cold reset too: the queue is the model's own, and that clause is the model's choice (logs 18 and 24). -/
def Obligations.CommandsKeepConfigurationAndPort : Prop :=
  ∀ (c : Instr) (s : State), ∃ t, exec c s = .next t ∧ t.pending = s.pending ∧
    (c ≠ .coldReset → s.station ≠ .config → t.config = s.config ∧ t.lease.durations = s.lease.durations) ∧
    (c ≠ .coldReset → (∀ b, c ≠ .resetnRelease b) →
      t.lease.ticks = s.lease.ticks ∧ t.lease.divider = s.lease.divider) ∧
    (hostCommandOf c = false → (∀ k o, c ≠ .unknownCommand k o) → (∀ o b, c ≠ .transactionNotTaken o b) →
      c ≠ .coldReset → (∀ b, c ≠ .resetnRelease b) → t.port = s.port ∧ t.resetnLow = s.resetnLow)

/-- R64, R66, R68, R72, R73, R74, R76, R94: a CLKIN cycle that completes a tick brings the tick boundary to every timer and then, at a
sampling station, its share of the sample period or the sample itself (in this order: log 34, the model's choice). The tick boundary counts down
every running timer; a lease, the own pulse deadline, the self guard and the census window that fall due at it are then
PEER_LEASE_REACHED, OWN_PULSE_DEADLINE_REACHED, FENCE and CENSUS_WINDOW_REACHED, and it does nothing else (several at one
tick in this order: log 6, the model's choice). A timer set for n ticks is running through the first n - 1 boundaries and
reached at the nth: the own pulse deadline, the self guard, the census window and every lease. -/
def Obligations.TimersReachTheirTick : Prop :=
  (∀ s : State, s.pending = [] → s.resetnLow = false → s.lease.divider = 1599 →
    let ticked := ({ s with lease := { s.lease with divider := 0 } }).tick
    (s.line.sampling = false → step s = .next ticked) ∧
    (s.line.sampling = true → s.line.divider + 1 < 16 / 2 ^ s.config.rate.toNat →
      step s = .next { ticked with line := { ticked.line with divider := s.line.divider + 1 } }) ∧
    (s.line.sampling = true → 16 / 2 ^ s.config.rate.toNat ≤ s.line.divider + 1 →
      step s = .next ({ ticked with line := { ticked.line with divider := 0 } }).sample)) ∧
  (∀ s : State,
    let down : Timer → Timer := fun x => match x with
      | .running n => .running (n - 1)
      | _ => x
    let due : Timer → Instr → List Instr := fun x i => if down x = .running 0 then [i] else []
    let counted : State := { s with lease := { s.lease with
      ticks := s.lease.ticks + 1
      leases := s.lease.leases.map fun l => { l with timer := down l.timer }
      pulse := down s.lease.pulse, selfGuard := down s.lease.selfGuard, window := down s.lease.window } }
    let commands := s.lease.leases.flatMap (fun l => due l.timer (.peerLeaseReached l.peer)) ++
      due s.lease.pulse .ownPulseDeadlineReached ++ due s.lease.selfGuard .fence ++
      due s.lease.window .censusWindowReached
    (∀ i ∈ commands, ∀ u : State, exec i u = .next (u.perform i)) ∧
      s.tick = commands.foldl (fun u i => u.perform i) counted) ∧
  ∀ (s : State) (n m : Nat), s.LeasesFit → 1 ≤ n → m ≤ n →
    let later := State.tick^[m] s
    let left : Timer := if m < n then .running (n - m) else .reached
    later.lease.ticks = s.lease.ticks + m ∧
    (s.lease.pulse = .running n → later.lease.pulse = left) ∧
    (s.lease.selfGuard = .running n → later.lease.selfGuard = left) ∧
    (s.lease.window = .running n → later.lease.window = left) ∧
    ∀ k, s.lease.leaseOf k = .running n → later.lease.leaseOf k = left

/-! ### The host port -/

/-- R151, R152, R159: the octets by which the host sends a well-formed command, alone or followed by further octets, are
taken as that command; cut short they are not taken. Clocked into an idle port bit by bit, most significant bit first, they
take that command at the rising edge of their last bit. R151, R153: SDO carries 0 up to the falling edge after the taking
and then one bit of the kept response for each falling edge, most significant first, with 0 after the last; SDI is ignored
meanwhile. A rising edge of CSN ends the transaction with no effect of its own, a falling one begins the next. R154: in a
transaction under way when RESETN rose no edge of SCK changes anything and SDO stays released; while RESETN is low no edge
of either pin does. That the edges of the pins are operations beside the queue, and SDO in an ignored transaction, are the
model's choices (log 20). -/
def Obligations.HostOctetsDecodeToTheirCommand : Prop :=
  (∀ (c : Instr) (octets extra : List Byte) (bits : List Bool), c.wellFormed = true → hostOctets c = some octets →
    transactionCommand (octets ++ extra) bits = c ∧
    (∀ n, n < octets.length → transactionCommand (octets.take n) bits = .transactionNotTaken (octets.take n) bits) ∧
    ∀ s : State, s.port = .idle → s.resetnLow = false →
      ∃ t, exec c s = .next t ∧
        ((octets.map octetBits).flatten.foldl (fun u b => (u.sckRise b).sckFall) s.csnFall) = t.sckFall) ∧
  ∀ (s : State) (response : List Byte),
    (s.resetnLow = true → s.csnFall = s ∧ s.csnRise = s ∧ s.sckFall = s ∧ ∀ b, s.sckRise b = s) ∧
    (s.resetnLow = false →
      (s.port = .kept response 0 → s.sdo = some false ∧ (∀ b, s.sckRise b = s) ∧
        ∀ n, (State.sckFall^[n + 1] s).sdo = some ((response.getD (n / 8) 0).getLsbD (7 - n % 8)) ∧
          ∀ b, (State.sckFall^[n + 1] s).sckRise b = State.sckFall^[n + 1] s) ∧
      (s.port = .idle ∨ s.port = .ignoring → s.sdo = none ∧ (∀ b, s.sckRise b = s) ∧ s.sckFall = s) ∧
      (∀ octets bits, s.port = .receiving octets bits → s.sdo = some false ∧ s.sckFall = s) ∧
      s.csnRise = { s with port := .idle } ∧ s.csnFall = { s with port := .receiving [] [] })

/-- R158: every host command with RESETN high is answered one status octet; data octets follow only OK and the START
response, which always has one; a command not answered OK leaves everything but the port as it stood. -/
def Obligations.RefusedCommandChangesNothing : Prop :=
  ∀ (c : Instr) (s : State), (hostCommandOf c = true ∨ ∃ k o, c = .unknownCommand k o) → s.resetnLow = false →
    ∃ (t : State) (a : Answer) (data : List Byte), exec c s = .next t ∧ t.port = .kept (a.code :: data) 0 ∧
      (c = .start → data.length = 1) ∧ (a ≠ .ok → c ≠ .start → data = []) ∧
      (a ≠ .ok → t = { s with port := t.port })

/-- R152, R154, R179: with RESETN high a command with an unknown code or a wrong operand count is answered UNKNOWN, and a
transaction broken off before its command is taken leaves no trace; while RESETN is low no command is taken and no
transaction ends with an effect, SDO and ATN being released. -/
def Obligations.TransactionsWithoutEffect : Prop :=
  ∀ s : State,
    (s.resetnLow = false → ∀ (c : Byte) (operands octets : List Byte) (bits : List Bool),
      exec (.unknownCommand c operands) s = .next { s with port := .kept [0x09] 0 } ∧
      exec (.transactionNotTaken octets bits) s = .next { s with port := .idle }) ∧
    (s.resetnLow = true → s.sdo = none ∧ s.atnLow = false ∧ ∀ c : Instr,
      (hostCommandOf c = true ∨ (∃ k o, c = .unknownCommand k o) ∨ ∃ o b, c = .transactionNotTaken o b) →
      exec c s = .next s)

/-- R155: CONFIGURE writes the nine parameters in CONFIG, and nothing in any other state. R172, R156, R65: START makes its
six checks in order, names the first that fails, and on success computes the durations, starts the line unit and goes to
LISTEN; in any other state it is answered WRONG_STATE. That the sample divider starts at 0 (log 8) and that the level of the
rest of the line is a field which START leaves (log 7) is the model's choice. -/
def Obligations.ConfigureThenStart : Prop :=
  (∀ (n r z q l g e t m : Byte) (s : State), s.resetnLow = false →
    (s.station = .config →
      exec (.configure n r z q l g e t m) s = .next { s with
        config := { station := n, rosterSlots := r, zoneCount := z, rate := q.setWidth 2, leaseCode := l,
                    guardCode := g, evict := e, retry := t, mask := m.setWidth 7 }
        port := .kept [0x01] 0 }) ∧
    (s.station ≠ .config → exec (.configure n r z q l g e t m) s = .next { s with port := .kept [0x07] 0 })) ∧
  ∀ s : State, s.resetnLow = false →
    let c := s.config
    let checks : List Bool :=
      [decide (4 ≤ c.rosterSlots.toNat ∧ c.rosterSlots.toNat ≤ 32), decide (c.station.toNat < c.rosterSlots.toNat),
       decide (8 ≤ c.zoneCount.toNat ∧ c.zoneCount.toNat ≤ 64), decide (2 ≤ c.evict.toNat ∧ c.evict.toNat ≤ 8),
       decide (3 ≤ c.retry.toNat ∧ c.retry.toNat ≤ 15 ∧ c.evict.toNat < c.retry.toNat),
       decide (1 ≤ c.guardCode.toNat ∧ c.guardCode.toNat ≤ 63 ∧ 2 * c.guardCode.toNat ≤ c.leaseCode.toNat)]
    let durations : Durations :=
      { lease := 100 * c.leaseCode.toNat, pulse := 25 * c.leaseCode.toNat, guardMargin := 100 * c.guardCode.toNat,
        selfGuard := 100 * (c.leaseCode.toNat - c.guardCode.toNat), window := 50 * c.leaseCode.toNat }
    (s.station ≠ .config → exec .start s = .next { s with port := .kept [0x07, 0] 0 }) ∧
    (∀ k, s.station = .config → checks.findIdx? (fun b => !b) = some k →
      exec .start s = .next { s with port := .kept [0x08, BitVec.ofNat 8 (k + 1)] 0 }) ∧
    (s.station = .config → checks.findIdx? (fun b => !b) = none →
      exec .start s = .next { s with
        station := .listen
        lease := { s.lease with durations := some durations }
        line := { LineUnit.reset with sampling := true, far := s.line.far, tracking := .recovering }
        port := .kept [0x01, 0] 0 })

/-- R137, R104, R135: SUBMIT makes its four checks in order; accepted, the slot becomes QUEUED with its mode and zones in
the order given, its changed flag set, and its CLAIM entry is made last in the entry order. -/
def Obligations.SubmitChecksInOrder : Prop :=
  ∀ (k m n z1 z2 z3 z4 : Byte) (s : State), s.resetnLow = false →
    let zones := ([z1, z2, z3, z4].take n.toNat).map BitVec.toNat
    let fits := (m = 0 ∨ m = 1) ∧ 1 ≤ n.toNat ∧ n.toNat ≤ 4 ∧ (∀ z ∈ zones, z < s.config.zoneCount.toNat) ∧ zones.Nodup
    let closed := s.station = .config ∨ s.station = .parked ∨ s.station = .halted
    let run := exec (.submit k m n z1 z2 z3 z4) s
    let queued : Slot :=
      { state := .queued, mode := some (if m = 0 then .shared else .exclusive), zones := zones, reason := none,
        changed := true, dropWanted := false }
    let entry : Entry := { kind := .claim k.toNat, retries := 0, onLine := false, withdrawn := false }
    let entered :=
      if s.outbound.entries.any (fun e => e.kind == entry.kind) then s.outbound.entries
      else s.outbound.entries ++ [entry]
    (7 < k.toNat → run = .next { s with port := .kept [0x06] 0 }) ∧
    (k.toNat ≤ 7 → closed → run = .next { s with port := .kept [0x07] 0 }) ∧
    (k.toNat ≤ 7 → ¬closed → (s.slotAt k.toNat).state ≠ .free → run = .next { s with port := .kept [0x02] 0 }) ∧
    (k.toNat ≤ 7 → ¬closed → (s.slotAt k.toNat).state = .free → ¬fits → run = .next { s with port := .kept [0x06] 0 }) ∧
    (k.toNat ≤ 7 → ¬closed → (s.slotAt k.toNat).state = .free → fits →
      run = .next { s with
        slots := s.slots.set k.toNat queued
        outbound := { s.outbound with entries := entered }
        port := .kept [0x01] 0 })

/-- R140, R135, R109: the host DROP command by the slot's state, its CLAIM held or on the line. That a QUEUED slot without any
CLAIM entry is freed like one whose CLAIM is held is log 10, the model's inference. -/
def Obligations.HostDropBySlotState : Prop :=
  ∀ (k : Byte) (s : State), s.resetnLow = false →
    let b := s.slotAt k.toNat
    let claims := s.outbound.entries.filter fun e => e.kind == .claim k.toNat
    let freed : Slot :=
      { state := .free, mode := none, zones := [], reason := none, changed := true, dropWanted := false }
    let marked := s.outbound.entries.map fun e =>
      if e.kind = .claim k.toNat then { e with withdrawn := true } else e
    let entry : Entry := { kind := .drop k.toNat, retries := 0, onLine := false, withdrawn := false }
    let entered :=
      if s.outbound.entries.any (fun e => e.kind == entry.kind) then s.outbound.entries
      else s.outbound.entries ++ [entry]
    (7 < k.toNat → exec (.drop k) s = .next { s with port := .kept [0x06] 0 }) ∧
    (k.toNat ≤ 7 → b.state = .free ∨ b.state = .lost ∨ b.state = .refused →
      exec (.drop k) s = .next { s with port := .kept [0x03] 0 }) ∧
    (k.toNat ≤ 7 → b.state = .releasing ∨ (b.state = .queued ∧ b.dropWanted = true) →
      exec (.drop k) s = .next { s with port := .kept [0x04] 0 }) ∧
    (k.toNat ≤ 7 → b.state = .queued → b.dropWanted = false → (∀ e ∈ claims, e.onLine = false) →
      exec (.drop k) s = .next { s with
        slots := s.slots.set k.toNat freed
        outbound := { s.outbound with entries := s.outbound.entries.filter fun e => e.kind != .claim k.toNat }
        port := .kept [0x01] 0 }) ∧
    (k.toNat ≤ 7 → b.state = .queued → b.dropWanted = false → claims ≠ [] → (∀ e ∈ claims, e.onLine = true) →
      exec (.drop k) s = .next { s with
        slots := s.slots.set k.toNat { b with dropWanted := true }
        outbound := { s.outbound with entries := marked }
        port := .kept [0x01] 0 }) ∧
    (k.toNat ≤ 7 → b.state = .waiting ∨ b.state = .granted →
      exec (.drop k) s = .next { s with
        slots := s.slots.set k.toNat { b with state := .releasing, reason := none, changed := true, dropWanted := false }
        outbound := { s.outbound with entries := entered }
        port := .kept [0x01] 0 })

/-- R146, R134: CLEAR by the slot's state; a LOST slot is linked while the table of a SYNCED or HALTED station holds this
station's record of its tag. -/
def Obligations.ClearFreesUnlinkedSlot : Prop :=
  ∀ (k : Byte) (s : State), s.resetnLow = false →
    let b := s.slotAt k.toNat
    let linked := (s.station = .synced ∨ s.station = .halted) ∧
      ∃ r ∈ s.table.requests, r.owner = s.config.station.toNat ∧ r.tag = k.toNat
    (7 < k.toNat → exec (.clear k) s = .next { s with port := .kept [0x06] 0 }) ∧
    (k.toNat ≤ 7 → b.state = .refused ∨ (b.state = .lost ∧ ¬linked) →
      exec (.clear k) s = .next { s with
        slots := s.slots.set k.toNat
          { state := .free, mode := none, zones := [], reason := none, changed := true, dropWanted := false }
        port := .kept [0x01] 0 }) ∧
    (k.toNat ≤ 7 → b.state = .lost → linked → exec (.clear k) s = .next { s with port := .kept [0x05] 0 }) ∧
    (k.toNat ≤ 7 → b.state = .free ∨ b.state = .queued ∨ b.state = .waiting ∨ b.state = .granted ∨ b.state = .releasing →
      exec (.clear k) s = .next { s with port := .kept [0x03] 0 })

/-- R135, R134: whatever state and reason a slot takes, its changed flag is set exactly where one of them differs, and a
slot that becomes FREE loses its mode and zones. R147, R28, R159: the SLOT read shows the slot and clears its changed
flag; the ZONE read shows the holders and then the waiters of the entry as it stands in SYNCED and HALTED, an empty
entry in every other state; neither changes anything else. The codes are those of the table of R159. -/
def Obligations.SlotFlagAndReads : Prop :=
  (∀ (b : Slot) (x : SlotState) (r : Option Reason),
    (b.become x r).state = x ∧ (b.become x r).reason = r ∧ (b.become x r).dropWanted = false ∧
    ((b.become x r).changed = true ↔ b.changed = true ∨ x ≠ b.state ∨ r ≠ b.reason) ∧
    (x = .free → (b.become x r).mode = none ∧ (b.become x r).zones = []) ∧
    (x ≠ .free → (b.become x r).mode = b.mode ∧ (b.become x r).zones = b.zones)) ∧
  [SlotState.free, .queued, .waiting, .granted, .releasing, .lost, .refused].map SlotState.code = [0, 1, 2, 3, 4, 5, 6] ∧
  [none, some Reason.recordsFull, some .queueFull, some .tagInUse, some .expired, some .fenced, some .out,
    some .restarted, some .left].map reasonCode = [0, 1, 2, 3, 4, 5, 6, 7, 8] ∧
  [StationState.config, .listen, .joining, .syncing, .synced, .parked, .halted].map StationState.code =
    [0, 1, 2, 3, 4, 5, 6] ∧
  (∀ (k : Byte) (s : State), s.resetnLow = false →
    let b := s.slotAt k.toNat
    let mode : Byte := match b.mode with
      | none => 0xFF
      | some .shared => 0
      | some .exclusive => 1
    let data := [0x01, b.state.code, reasonCode b.reason, mode, BitVec.ofNat 8 b.zones.length] ++
      b.zones.map (BitVec.ofNat 8) ++ List.replicate (4 - b.zones.length) 0xFF
    (7 < k.toNat → exec (.slot k) s = .next { s with port := .kept [0x06] 0 }) ∧
    (k.toNat ≤ 7 → b.zones.length ≤ 4 →
      exec (.slot k) s = .next { s with
        slots := s.slots.set k.toNat { b with changed := false }
        port := .kept data 0 })) ∧
  ∀ (z : Byte) (s : State), s.resetnLow = false →
    let e := s.table.zoneAt z.toNat
    let pair : RecordRef → List Byte := fun r =>
      [BitVec.ofNat 8 (8 * r.owner + r.tag), if r.mode = .exclusive then 0x80 else 0x00]
    let data := [0x01, BitVec.ofNat 8 e.holders.length, BitVec.ofNat 8 e.waiters.length] ++
      (e.holders.map pair).flatten ++ (e.waiters.map pair).flatten
    (s.config.zoneCount.toNat ≤ z.toNat → exec (.zone z) s = .next { s with port := .kept [0x06] 0 }) ∧
    (z.toNat < s.config.zoneCount.toNat → s.station = .synced ∨ s.station = .halted →
      exec (.zone z) s = .next { s with port := .kept data 0 }) ∧
    (z.toNat < s.config.zoneCount.toNat → s.station ≠ .synced → s.station ≠ .halted →
      exec (.zone z) s = .next { s with port := .kept [0x01, 0, 0] 0 })

/-- R157, R63, R159: the ROSTER read in every state, and IDENT; neither changes anything but the port. In a
station bitmap the octet of station k, stations 0 to 7 in the first, has k's bit set exactly for a member of the set. -/
def Obligations.RosterAndIdentReads : Prop :=
  (∀ s : State, s.resetnLow = false →
    let shown : StationSet → List Byte := fun a =>
      bitmapOctets ((List.range 32).filter fun k => a.contains k && decide (k < s.config.rosterSlots.toNat))
    let misses := match s.roster.members.find? (fun m => m.number == s.config.station.toNat) with
      | none => 0
      | some m => m.misses
    let data : List Byte := [0x01, s.station.code] ++ shown (s.roster.members.map Member.number) ++
      shown s.roster.synced ++ [if s.census.joiners = [] then 0 else 1] ++ shown s.census.joiners ++
      [BitVec.ofNat 8 (s.table.sequence.toNat / 256), BitVec.ofNat 8 s.table.sequence.toNat, BitVec.ofNat 8 misses]
    exec .roster s = .next { s with port := .kept data 0 } ∧
    exec .ident s = .next { s with port := .kept [0x01, 0x47, 0x5A, 0x32, 0x34] 0 }) ∧
  ∀ a : StationSet, (bitmapOctets a).length = 4 ∧
    (∀ k, k < 32 → ((bitmapOctets a).getD (k / 8) 0).getLsbD (k % 8) = a.contains k) ∧
    setOfBitmap (bitmapOctets a) = (List.range 32).filter fun k => a.contains k

/-- R163, R164: ATTENTION reports the pending source of lowest code with its detail, and the pending set, whatever the
mask, and changes nothing. -/
def Obligations.AttentionReportsHighestPending : Prop :=
  ∀ s : State, s.resetnLow = false →
    let sources : List (Bool × Byte) :=
      [(s.attention.halt.pending, s.attention.halt.detail), (s.attention.out.pending, s.attention.out.detail),
       (s.attention.line.pending, s.attention.line.detail), (s.attention.state.pending, s.attention.state.detail)] ++
      (List.range 8).map (fun k => ((s.slotAt k).changed, (s.slotAt k).state.code)) ++
      [(s.attention.roster.pending, s.attention.roster.detail), (s.attention.foreign.pending, s.attention.foreign.detail)]
    ∃ (code : Nat) (detail high low : Byte),
      exec .attention s = .next { s with port := .kept [0x01, BitVec.ofNat 8 code, detail, high, low] 0 } ∧
      ((sources.findIdx? (fun x => x.1) = none ∧ code = 0 ∧ detail = 0) ∨
        ∃ i, sources.findIdx? (fun x => x.1) = some i ∧ code = i + 1 ∧ detail = (sources.getD i (false, 0)).2) ∧
      ∀ n, n < 8 → low.getLsbD n = (sources.getD n (false, 0)).1 ∧ high.getLsbD n = (sources.getD (8 + n) (false, 0)).1

/-- R165, R162: ACKNOWLEDGE clears exactly the named source of the host port. -/
def Obligations.AcknowledgeClearsNamedSource : Prop :=
  ∀ (a : Byte) (s : State), s.resetnLow = false →
    let clear : Source := { pending := false, detail := 0 }
    let own : Option (Source × Attention) :=
      if a = 1 then some (s.attention.halt, { s.attention with halt := clear })
      else if a = 2 then some (s.attention.out, { s.attention with out := clear })
      else if a = 3 then some (s.attention.line, { s.attention with line := clear })
      else if a = 4 then some (s.attention.state, { s.attention with state := clear })
      else if a = 13 then some (s.attention.roster, { s.attention with roster := clear })
      else if a = 14 then some (s.attention.foreign, { s.attention with foreign := clear })
      else none
    (own = none → exec (.acknowledge a) s = .next { s with port := .kept [0x06] 0 }) ∧
    (∀ x y, own = some (x, y) → x.pending = false → exec (.acknowledge a) s = .next { s with port := .kept [0x03] 0 }) ∧
    (∀ x y, own = some (x, y) → x.pending = true →
      exec (.acknowledge a) s = .next { s with attention := y, port := .kept [0x01] 0 })

/-- R166, R179: ATN is low exactly while RESETN is high and some pending source belongs to an enabled group. -/
def Obligations.AtnFollowsEnabledSources : Prop :=
  ∀ s : State, s.atnLow = true ↔
    s.resetnLow = false ∧
      ((s.attention.halt.pending = true ∧ s.config.mask.getLsbD 0 = true) ∨
       (s.attention.out.pending = true ∧ s.config.mask.getLsbD 1 = true) ∨
       (s.attention.line.pending = true ∧ s.config.mask.getLsbD 2 = true) ∨
       (s.attention.state.pending = true ∧ s.config.mask.getLsbD 3 = true) ∨
       ((∃ k, k < 8 ∧ (s.slotAt k).changed = true) ∧ s.config.mask.getLsbD 4 = true) ∨
       (s.attention.roster.pending = true ∧ s.config.mask.getLsbD 5 = true) ∨
       (s.attention.foreign.pending = true ∧ s.config.mask.getLsbD 6 = true))

/-- R99, R104: the host LEAVE command. -/
def Obligations.HostLeaveEntersOneEntry : Prop :=
  ∀ s : State, s.resetnLow = false →
    let held := s.outbound.entries.any fun e => e.kind == .leave
    let entry : Entry := { kind := .leave, retries := 0, onLine := false, withdrawn := false }
    (s.station ≠ .synced → exec .leave s = .next { s with port := .kept [0x07] 0 }) ∧
    (s.station = .synced → held = true → exec .leave s = .next { s with port := .kept [0x04] 0 }) ∧
    (s.station = .synced → held = false →
      exec .leave s = .next { s with
        outbound := { s.outbound with entries := s.outbound.entries ++ [entry] }
        port := .kept [0x01] 0 })

/-- R175, R176, R156, R27, R50, R77, R119, R145, R150, R169: RESTART with no CLAIM of a drop-wanted slot on the line:
the cell is given up, the slots are settled for RESTARTED with drop-wanted clear, the QUEUED CLAIMs are kept with
counts 0, the station is in LISTEN and RECOVERING, and STATE is raised; in CONFIG and LISTEN it is answered WRONG_STATE.
R141: one that breaks off the CLAIM of a drop-wanted slot frees that slot, the CLAIM goes, and all else is as in any other
RESTART. -/
def Obligations.RestartGivesUpTheCell : Prop :=
  ∀ s : State, s.resetnLow = false →
    let kept : (Nat → Bool) → List Entry := fun goes => (s.outbound.entries.filter fun e => match e.kind with
      | .claim k => (s.slotAt k).state == .queued && !goes k
      | _ => false).map fun e => { kind := e.kind, retries := 0, onLine := false, withdrawn := false }
    let freed : Slot :=
      { state := .free, mode := none, zones := [], reason := none, changed := true, dropWanted := false }
    let settle : Slot → Slot := fun b => match b.state with
      | .waiting => { b with state := .lost, reason := some .restarted, changed := true, dropWanted := false }
      | .granted => { b with state := .lost, reason := some .restarted, changed := true, dropWanted := false }
      | .releasing => freed
      | _ => { b with dropWanted := false }
    let restarted : (Nat → Bool) → State := fun goes => { s with
      station := .listen
      table := { requests := [], zones := List.replicate 64 { holders := [], waiters := [] }, sequence := 0 }
      census := { joiners := [], passOver := [], progress := 0, runCount := none, designated := none, staging := [] }
      roster := { members := [], synced := [], clash := false }
      lease := { s.lease with leases := [], pulse := .inactive, selfGuard := .inactive, window := .inactive }
      outbound := { entries := kept goes, spent := false, sending := [] }
      slots := s.slots.zipIdx.map fun p => if goes p.2 = true then freed else settle p.1
      attention := { s.attention with state := { pending := true, detail := 1 } }
      line := { s.line with tracking := .recovering, recoverRun := 0, ltx := .rest, rx := none }
      judgement := none
      port := .kept [0x01] 0 }
    (s.station = .config ∨ s.station = .listen → exec .restart s = .next { s with port := .kept [0x07] 0 }) ∧
    (s.station ≠ .config → s.station ≠ .listen →
      (∀ e ∈ s.outbound.entries, e.withdrawn = false) ∨
        (∃ e, s.outbound.entries.filter (fun x => x.onLine) = [e] ∧ ∀ k, e.kind ≠ .claim k) →
      exec .restart s = .next (restarted fun _ => false)) ∧
    ∀ (e : Entry) (k : Nat), s.station ≠ .config → s.station ≠ .listen →
      s.outbound.entries.filter (fun x => x.onLine) = [e] → e.kind = .claim k → e.withdrawn = true →
      (s.slotAt k).state = .queued → (s.slotAt k).dropWanted = true →
      exec .restart s = .next (restarted fun j => j == k)

/-! ### Reset -/

/-- R179, R180, R27, R50, R77, R119, R133, R150, R167, R170: what a cold reset leaves, with RESETN low; the level the rest
of the line shows and the waiting commands are not the station's (logs 7, 18). R64, R154: when
RESETN rises the tick counter starts from 0 and a transaction under way is ignored; with RESETN already high its release
changes nothing (log 4, the model's choice). -/
def Obligations.ColdResetAndRelease : Prop :=
  (∀ s : State, ∃ t, exec .coldReset s = .next t ∧
    t.station = .config ∧
    t.config = { station := 0, rosterSlots := 32, zoneCount := 64, rate := 1, leaseCode := 10, guardCode := 2, evict := 3,
                 retry := 6, mask := 0x7F } ∧
    t.table.requests = [] ∧ t.table.zones = List.replicate 64 { holders := [], waiters := [] } ∧ t.table.sequence = 0 ∧
    t.census = { joiners := [], passOver := [], progress := 0, runCount := none, designated := none, staging := [] } ∧
    t.roster = { members := [], synced := [], clash := false } ∧
    t.lease.durations = none ∧ t.lease.leases = [] ∧ t.lease.pulse = .inactive ∧ t.lease.selfGuard = .inactive ∧
    t.lease.window = .inactive ∧
    t.outbound.entries = [] ∧ t.outbound.spent = false ∧
    t.slots = List.replicate 8
      { state := .free, mode := none, zones := [], reason := none, changed := false, dropWanted := false } ∧
    (∀ code, t.sourcePending code = false) ∧ t.attention.halt.detail = 0 ∧ t.attention.out.detail = 0 ∧
    t.attention.line.detail = 0 ∧ t.attention.state.detail = 0 ∧ t.attention.roster.detail = 0 ∧
    t.attention.foreign.detail = 0 ∧
    t.port = .idle ∧ t.sdo = none ∧ t.atnLow = false ∧
    t.line.ltx = .rest ∧ t.line.sampling = false ∧ t.line.accepted = .rest ∧ t.line.phase = 0 ∧
    t.line.tracking = .none ∧ t.line.quiet = 0 ∧ t.line.condition = .normal ∧ t.line.driveRun = 0 ∧ t.line.restRun = 0 ∧
    t.line.far = s.line.far ∧ t.judgement = none ∧ t.resetnLow = true ∧ t.pending = s.pending) ∧
  ∀ (csnLow : Bool) (s : State),
    (s.resetnLow = true →
      exec (.resetnRelease csnLow) s = .next { s with
        resetnLow := false
        lease := { s.lease with divider := 0, ticks := 0 }
        port := if csnLow = true then .ignoring else .idle }) ∧
    (s.resetnLow = false → exec (.resetnRelease csnLow) s = .next s)

/-- R180, R172: the reset state is the one a cold reset and its release leave, it meets every condition that holds
between two steps, those that only undisturbed frame ends keep among them, and its configuration passes every check of
START. -/
def Obligations.ResetMeetsEveryCondition : Prop :=
  State.reset.Inv ∧ State.reset.SlotsAgree ∧ State.reset.OwnersAreMembers ∧ State.reset.CensusBounds ∧
    State.reset.config.failedCheck = 0 ∧
    ∃ t, exec .coldReset State.reset = .next t ∧ exec (.resetnRelease false) t = .next State.reset

/-! ### The zone table -/

/-- R10: compatible, grantable in a zone, grantable; a grant pass judges each record against the table as the earlier
visits left it. -/
def Obligations.GrantabilityTest : Prop :=
  (∀ (e : ZoneEntry) (m : Mode), e.compatible m = true ↔
    e.holders = [] ∨ (m = .shared ∧ (∀ h ∈ e.holders, h.mode = .shared) ∧ e.holders.length < 8)) ∧
  (∀ (t : Table) (r : Record), t.grantable r = true ↔
    r.status = .waiting ∧ ∀ z ∈ r.zones,
      (∃ head rest, (t.zoneAt z).waiters = head :: rest ∧ head.owner = r.owner ∧ head.tag = r.tag) ∧
        (t.zoneAt z).compatible r.mode = true) ∧
  (∀ (t : Table) (earlier : List Record) (r : Record),
    let left := earlier.foldl Table.visit (t, [])
    (left.1.grantable r = true → (earlier ++ [r]).foldl Table.visit (t, []) = (left.1.grant r, left.2 ++ [r.ref])) ∧
    (left.1.grantable r = false → (earlier ++ [r]).foldl Table.visit (t, []) = left))

/-- R14, R11, R12: a removal keeps the order of what remains; on a table from which records were removed, one grant pass
changes statuses alone, and only from WAITING to GRANTED; it reports the records granted, oldest first; it leaves the
table as every frame end leaves it, with no WAITING record grantable. -/
def Obligations.GrantPassSettlesTheTable : Prop :=
  ∀ t : Table, t.Sound →
    let u := t.grantPass.1
    (u.Wf ∧ u.sequence = t.sequence ∧ u.requests.map Record.ref = t.requests.map Record.ref ∧
      u.requests.map Record.zones = t.requests.map Record.zones ∧
      t.grantPass.2 = ((t.requests.zip u.requests).filter fun p =>
        p.1.status == .waiting && p.2.status == .granted).map (fun p => p.1.ref) ∧
      ∀ p ∈ t.requests.zip u.requests, p.1.status = .granted → p.2.status = .granted) ∧
    ∀ gone : Nat → Nat → Bool, (t.remove gone).Sound ∧ (t.remove gone).sequence = t.sequence ∧
      (t.remove gone).requests = t.requests.filter (fun r => !gone r.owner r.tag)

/-- R16, R17, R18: what becomes of a CLAIM against a well-formed table: the checks in their order, the record it
creates, and that nothing is grantable after it. -/
def Obligations.ClaimPlacement : Prop :=
  ∀ (t : Table) (owner tag : Nat) (m : Mode) (zones : List Nat), t.Wf →
    owner < 32 → tag < 8 → 1 ≤ zones.length → zones.length ≤ 4 → zones.Nodup → (∀ z ∈ zones, z < 64) →
    let u := t.place owner tag m zones
    let outcome := t.judgeClaim owner tag m zones
    let placed : Status → Record := fun x => { owner := owner, tag := tag, mode := m, zones := zones, status := x }
    let inUse := ∃ r ∈ t.requests, r.owner = owner ∧ r.tag = tag
    let full := 48 ≤ t.requests.length
    let free := ∀ z ∈ zones, (t.zoneAt z).waiters = [] ∧ (t.zoneAt z).compatible m = true
    let queueFull := ∃ z ∈ zones, 8 ≤ (t.zoneAt z).waiters.length
    u.Wf ∧ u.sequence = t.sequence ∧
      (inUse → outcome = .refused .tagInUse ∧ u = t) ∧
      (¬inUse → full → outcome = .refused .recordsFull ∧ u = t) ∧
      (¬inUse → ¬full → free → outcome = .granted ∧ u.requests = t.requests ++ [placed .granted]) ∧
      (¬inUse → ¬full → ¬free → queueFull → outcome = .refused .queueFull ∧ u = t) ∧
      (¬inUse → ¬full → ¬free → ¬queueFull → outcome = .waiting ∧ u.requests = t.requests ++ [placed .waiting])

/-- R26: a census of a well-formed table rebuilds that very table at the joiner. -/
def Obligations.InstallationRebuildsTheTable : Prop :=
  ∀ (t : Table) (n : Word16), t.Wf → Table.install t.requests n = { t with sequence := n }

/-! ### Frames -/

/-- R32, R37: the check register starts at 0xFFFF and takes every octet most significant bit first, shifting left and
adding the generator 0xC867 where the bit shifted out differs from the message bit; the check over the octets of a frame
and its own two CRC octets is 0, so a frame whose cells are read as they were sent is received GOOD; a CRC octet read
differently and a faulty end bit of a body or CRC cell are each a reception error. -/
def Obligations.FrameCheckResidue : Prop :=
  crc [] = 0xFFFF ∧
  (∀ (octets : List Byte) (b : Byte), crc (octets ++ [b]) =
    [7, 6, 5, 4, 3, 2, 1, 0].foldl (fun (r : BitVec 16) i =>
      if r.getLsbD 15 = b.getLsbD i then r <<< 1 else (r <<< 1) ^^^ 0xC867#16) (crc octets)) ∧
  (∀ octets : List Byte, crc (octets ++ octetsOfWord (crc octets)) = 0) ∧
  ∀ (key length : Byte) (body : List Byte) (high low : Byte) (fault : Bool),
    (FrameCells.reception { key := key, length := length, body := body, crcHigh := high, crcLow := low,
                            endFault := fault } = .good ↔ fault = false ∧ crc ([key, length] ++ body ++ [high, low]) = 0)

/-- R31, R39, R88, R108: the frame this station assembles for any entry is read back by a station of the same R and Z as
the frame it stands for. -/
def Obligations.OwnFramesParseToTheirEntry : Prop :=
  ∀ (s : State) (k : EntryKind), s.Inv → s.station ≠ .config →
    let c : FrameCells :=
      { key := (s.frameOf k).getD 0 0, length := (s.frameOf k).getD 1 0,
        body := ((s.frameOf k).drop 2).take ((s.frameOf k).length - 4),
        crcHigh := (s.frameOf k).getD ((s.frameOf k).length - 2) 0,
        crcLow := (s.frameOf k).getD ((s.frameOf k).length - 1) 0, endFault := false }
    c.wellFormed = true ∧ c.reception = .good ∧ c.sender = s.own ∧ c.frameClass = k.frameClass ∧
    (∀ target, k = .expire target → target < s.rosterSlots → s.parse c = some (.expire target)) ∧
    (k = .leave → s.parse c = some .leave) ∧
    (∀ pass, k = .join pass → s.parse c = some (.join pass) ∧ s.config.fingerprintDiffers c.body = false) ∧
    (∀ tag, k = .drop tag → tag < 8 → s.parse c = some (.drop tag)) ∧
    (∀ tag, k = .claim tag → tag < 8 → (s.slotAt tag).state ≠ .free →
      ∃ m, (s.slotAt tag).mode = some m ∧ s.parse c = some (.claim tag m (s.slotAt tag).zones)) ∧
    (k = .pulse → s.parse c = some .pulse) ∧
    (∀ i, k = .census i → i < partCount s.table.requests.length →
      (∀ r ∈ s.table.requests, r.owner < s.rosterSlots ∧ ∀ z ∈ r.zones, z < s.zoneCount) →
      (∀ j ∈ s.census.joiners, j < s.rosterSlots) →
      s.census.joiners = (List.range 32).filter (fun j => s.census.joiners.contains j) →
      s.parse c = some (.census
        { sequence := if s.station = .synced then s.table.sequence + 1 else 0
          index := i
          count := partCount s.table.requests.length
          joiners := s.census.joiners
          records := (s.table.requests.drop (4 * i)).take 4 }))

/-- R44, R39, R40, R41, R43: a member voids exactly the frames it received with an error, found incompletely acked, or
objects to; R42: it acks exactly those received GOOD; R46: it stands exactly in SYNCED. A JOINING station acks exactly
the frames of its own attempt, on the line and not lost in its key, that it received GOOD, and neither voids nor
stands. Every other station, and every station on a STUCK line, drives none of the three. -/
def Obligations.MemberAcksVoidsAndStands : Prop :=
  ∀ (s : State) (c : FrameCells) (rollCall : StationSet),
    (s.line.condition = .normal → s.station = .joining →
      (s.ack c = .drive ↔ c.reception = .good ∧
        ∃ e, s.outbound.onLine = some e ∧
          ∀ i, i < 8 → (keyOctet e.kind.frameClass s.own).getLsbD i = true → c.key.getLsbD i = true) ∧
      s.void c rollCall = .rest ∧ s.stand = .rest) ∧
    (s.line.condition = .stuck ∨ (s.station ≠ .joining ∧ s.station ≠ .syncing ∧ s.station ≠ .synced) →
      s.ack c = .rest ∧ s.void c rollCall = .rest ∧ s.stand = .rest) ∧
    (s.line.condition = .normal → s.station = .synced ∨ s.station = .syncing →
    (s.ack c = .drive ↔ c.reception = .good) ∧
    (s.void c rollCall = .drive ↔
      c.reception = .error ∨ (∃ k ∈ s.roster.roster, k ∉ rollCall) ∨
      (c.reception = .good ∧
        (s.parse c = none ∨
         (s.isMember c.sender = false ∧ c.frameClass ≠ 2) ∨
         (c.frameClass = 2 ∧ (s.config.fingerprintDiffers c.body = true ∨ s.rosterSlots ≤ c.sender)) ∨
         (s.census.joiners ≠ [] ∧ (c.frameClass = 0 ∨ c.frameClass = 1 ∨ c.frameClass = 4 ∨ c.frameClass = 5)) ∨
         ∃ p, s.parse c = some (.census p) ∧
          (s.census.designated ≠ some c.sender ∨ p.index ≠ s.census.progress ∨
            (0 < p.index ∧ s.census.runCount ≠ some p.count) ∨ p.joiners ≠ s.census.joiners)))) ∧
    (s.stand = .drive ↔ s.station = .synced))

/-- R105, R106: an entry is eligible exactly where the condition of its kind holds, the station is in JOINING, SYNCING or
SYNCED, frame-aware on a NORMAL line, and no own frame is on the line. R107: the entry chosen is an eligible one of the
lowest class, among EXPIRE entries of the lowest target, among DROP and among CLAIM entries the first in the entry order;
there is none only where no entry is eligible. -/
def Obligations.ChoiceIsLowestThenOldest : Prop :=
  (∀ (s : State) (e : Entry), s.line.tracking ≠ .none →
    let freezeOn := s.census.joiners ≠ []
    let calm := s.station = .synced ∧ ¬freezeOn
    let own : Prop := match e.kind with
      | .expire _ => calm
      | .leave => calm
      | .join _ => s.station = .joining ∨ s.station = .syncing
      | .census _ => (s.station = .synced ∨ s.station = .syncing) ∧ s.census.designated = some s.own ∧ freezeOn
      | .drop _ => calm ∧ s.outbound.spent = false
      | .claim _ => calm ∧ s.outbound.spent = false
      | .pulse => s.station = .synced ∧ s.outbound.spent = false
    (s.eligible e = true ↔ own ∧
      s.station ≠ .config ∧ s.station ≠ .listen ∧ s.station ≠ .parked ∧ s.station ≠ .halted ∧
      s.line.condition ≠ .stuck ∧ s.line.tracking ≠ .recovering ∧ ∀ x ∈ s.outbound.entries, x.onLine = false)) ∧
  ∀ s : State, s.OutboundFits →
    (s.chosen = none ↔ ∀ e ∈ s.outbound.entries, s.eligible e = false) ∧
    ∀ e, s.chosen = some e → ∃ before after, s.outbound.entries = before ++ e :: after ∧ s.eligible e = true ∧
      (∀ x ∈ before ++ after, s.eligible x = true → e.kind.frameClass ≤ x.kind.frameClass) ∧
      (∀ i j, e.kind = .expire i → ∀ x ∈ before ++ after, x.kind = .expire j → i < j) ∧
      (∀ x ∈ before, s.eligible x = true → x.kind.frameClass = 4 ∨ x.kind.frameClass = 5 →
        x.kind.frameClass ≠ e.kind.frameClass)

/-! ### Events of the line -/

/-- R121, R122, R123: one sample of LRX, which shows DRIVE where LTX or the rest of the line drives (log 7): a level
other than the accepted one is accepted at the third consecutive sample that shows it; the sample is the next of its bit
time, or sample 3 of a new one where DRIVE is accepted. R124, R125: after a frame end the last frame phase, with the
level driven in it, lasts to sample 16, which closes it with quiet time 0; an edge in it is no key mark (log 9 for where
that edge leads). R122: the bit is read at sample 10 and at no other, and not at an edge; R125, R127: a mark edge in QUIET is
the KEY_MARK of the quiet time held, and elsewhere moves the phase alone; R127: sample 1 in QUIET with no own frame on the
line is the FRAME_START of the quiet time held, after LTX is released, and one sample 1 outside QUIET and FRAME releases LTX;
R124, R130: the bit read is the accepted level, which counts for the drive count and then, in a frame on a NORMAL line, is a
bit of that frame. Three things here are the model's: that only a bit read counts as a frame position (log 38), that a
sample which is sample 1 and accepts DRIVE opens its bit before the phase moves (log 42), and that an edge at any other
sample leaves LTX to the next sample 1 (log 43). -/
def Obligations.SampleFilterAndPhase : Prop :=
  (∀ s : State,
    (s.line.tracking = .quiet → s.outbound.onLine = none →
      exec (.frameStart s.line.quiet) { s with line := { s.line with ltx := .rest } } = .next s.openBit) ∧
    (s.line.tracking = .quiet → s.outbound.onLine ≠ none → s.openBit = s) ∧
    (s.line.tracking = .recovering ∨ s.line.tracking = .none →
      s.openBit = { s with line := { s.line with ltx := .rest } }) ∧
    (s.line.tracking = .frame → s.line.condition = .normal → s.line.accepted = .rest →
      s.readBit = ({ s with line := { s.line with driveRun := 0 } }).frameBit .rest) ∧
    (s.line.tracking = .frame → s.line.condition = .normal → s.line.accepted = .drive → s.line.driveRun < 47 →
      s.readBit = ({ s with line := { s.line with driveRun := s.line.driveRun + 1 } }).frameBit .drive)) ∧
  ∀ s : State, s.line.filterRun < 3 →
    let moved : State := { s with line := { s.line with phase := s.line.phase % 16 + 1 } }
    let opened := if moved.line.phase = 1 then moved.openBit else moved
    let level := if opened.line.ltx = .drive ∨ s.line.far = .drive then Level.drive else Level.rest
    let changes := level ≠ s.line.accepted ∧ s.line.filterRun = 2
    let filtered : State := { opened with line := { opened.line with
      accepted := if changes then level else s.line.accepted
      filterRun := if level = s.line.accepted ∨ changes then 0 else s.line.filterRun + 1 } }
    (changes → level = .drive →
      (opened.line.tracking = .quiet → exec (.keyMark opened.line.quiet) opened = .next s.sample) ∧
      (opened.line.tracking ≠ .quiet → s.sample = { opened with
        line := { opened.line with accepted := .drive, filterRun := 0, phase := 3 } })) ∧
    (¬(changes ∧ level = .drive) →
      (moved.line.phase = 10 → s.sample = filtered.readBit) ∧
      (moved.line.phase ≠ 10 → moved.line.phase ≠ 16 ∨ opened.line.tracking ≠ .ending → s.sample = filtered)) ∧
    s.sample.line.accepted = (if changes then level else s.line.accepted) ∧
      s.sample.line.filterRun = (if level = s.line.accepted ∨ changes then 0 else s.line.filterRun + 1) ∧
      s.sample.line.phase = (if changes ∧ level = .drive then 3 else s.line.phase % 16 + 1) ∧
      s.sample.line.far = s.line.far ∧
      (s.line.tracking = .ending → 10 ≤ s.line.phase → s.line.phase ≤ 15 → s.sample.line.ltx = s.line.ltx ∧
        s.sample.outbound = s.outbound ∧ s.sample.judgement = s.judgement ∧
        (s.line.phase = 15 ∧ ¬(changes ∧ level = .drive) →
          s.sample.line.tracking = .quiet ∧ s.sample.line.quiet = 0) ∧
        (s.line.phase < 15 ∨ (changes ∧ level = .drive) → s.sample.line.tracking = .ending))

/-- R31, R122, R123, R124: the ten bits that a sender drives for the next octet of its frame, read one by one by a station
that follows the frame and does not send, or sends this very frame, are read as that octet, with no fault of its end bit;
nothing of the table changes, and before the last cell nothing of the outbound set (R128, R129: what is read as it was sent
ends no attempt, and neither does a REST data bit read where DRIVE was sent). The length cell is one that R36 lets pass. At
sample 1 LTX takes the level to drive, which in the cells is that of the frame sent while an entry is on the line and REST
otherwise. R34, R37: a body or CRC cell whose end bit is read DRIVE is a fault, and the open
judgement records reception ERROR at that bit. -/
def Obligations.SentCellIsReadBack : Prop :=
  ∀ (octets : List Byte) (x : Rx) (s : State), s.line.rx = some x → s.line.tracking = .frame →
    let n := x.octets.length
    (s.outbound.onLine = none ∨ octets = s.outbound.sending → x.cell = [] → x.position = 10 * n →
      (n = 1 → (octets.getD n 0).toNat ≤ 40) →
      (2 ≤ n → n < 4 + (x.octets.getD 1 0).toNat) →
      let read := (List.range 10).foldl (fun u i => u.frameBit (sentLevel octets (10 * n + i))) s
      read.line.rx = some { x with position := 10 * n + 10, octets := x.octets ++ [octets.getD n 0] } ∧
        read.table = s.table ∧ read.line.tracking = .frame ∧
        (n < 2 ∨ n + 1 < 4 + (x.octets.getD 1 0).toNat → read.outbound = s.outbound ∧ read.station = s.station)) ∧
    (1 ≤ x.position % 10 → x.position % 10 ≤ 8 → x.position < x.cellBits →
      s.frameBit .rest = { s with line := { s.line with
        rx := some { x with position := x.position + 1, cell := x.cell ++ [true] } } }) ∧
    s.openBit = { s with line := { s.line with ltx := s.driveLevel x } } ∧
    (s.station.mayDrive = true → s.line.condition = .normal →
      (s.outbound.onLine ≠ none → x.position < 10 * s.outbound.sending.length →
        s.driveLevel x = sentLevel s.outbound.sending x.position) ∧
      (s.outbound.onLine = none → x.position < x.cellBits → s.driveLevel x = .rest)) ∧
    (s.outbound.onLine = none → 2 ≤ n → n < 4 + (x.octets.getD 1 0).toNat → x.position = 10 * n + 9 →
      (s.frameBit .drive).line.rx.map Rx.endFault = some true ∧ (s.frameBit .drive).line.tracking = .frame ∧
        (s.frameBit .drive).judgement.map Judgement.reception = s.judgement.map fun _ => some .error)

/-- R42, R44, R46, R123, R124: in the phases after the cells a station that may drive drives its roll-call slot as its
ack says, both verdict bits as its void says and, in a JOIN, its standing slot in SYNCED, and rests in every other bit.
R43, R45, R46, R47: the bits read there, turn bits of any level among them, make the roll-call picture, the verdict
samples and, for a JOIN, the standing picture, and the last of them is the FRAME_END of exactly these. R34, R60, R61: the end
bit of the second CRC cell is the IDENTITY_CLASH of the cells received, and an open judgement takes its reception, objection,
foreign mark and ack there; R44: at the last roll-call sample it takes the void that the picture calls for, and R45: at the
second verdict sample the outcome. -/
def Obligations.PhasesAfterTheCells : Prop :=
  ∀ (x : Rx) (s : State), s.line.rx = some x → s.line.tracking = .frame → 2 ≤ x.octets.length →
    4 ≤ s.rosterSlots → s.rosterSlots ≤ 32 →
    let slots := s.rosterSlots
    let base := 10 * (4 + (x.octets.getD 1 0).toNat)
    let said : (Judgement → Option Level) → Level := fun f => ((s.judgement.bind f).getD .rest)
    (s.station = .joining ∨ s.station = .syncing ∨ s.station = .synced → s.line.condition = .normal → s.own < slots →
      base ≤ x.position → s.outbound.onLine = none ∨ 10 * s.outbound.sending.length ≤ x.position →
      s.driveLevel x =
        if x.position = base + 1 + s.own then said Judgement.ack
        else if x.position = base + 1 + slots ∨ x.position = base + 2 + slots then said Judgement.void
        else if x.cells.frameClass = 2 ∧ x.position = base + 4 + slots + s.own ∧ s.station = .synced then .drive
        else .rest) ∧
    (∀ b : Level, x.position = base - 1 → x.octets.length + 1 = 4 + (x.octets.getD 1 0).toNat →
      b = .rest ∨ s.outbound.onLine = none →
      let x' : Rx := { x with
        position := base, cell := [], octets := x.octets ++ [octetOfBits x.cell], endFault := x.endFault || b == .drive }
      ∃ u, exec (.identityClash x'.cells) { s with line := { s.line with rx := some x' } } = .next u ∧
        ∀ j, s.judgement = some j → s.frameBit b = { u with judgement := some { j with
          reception := some x'.cells.reception
          objection := u.objection x'.cells
          foreign := u.foreignJoin x'.cells
          ack := some (u.ack x'.cells) } }) ∧
    (∀ b : Level, x.position = base + slots →
      let x' : Rx := { x with
        position := x.position + 1
        rollCall := (List.range 32).filter fun k => x.rollCall.contains k || (k == slots - 1 && b == .drive) }
      (List.range 32).filter x.rollCall.contains = x.rollCall →
      s.frameBit b = { s with
        line := { s.line with rx := some x' }
        judgement := s.judgement.map fun j => { j with void := some (s.void x'.cells x'.rollCall) } }) ∧
    (∀ b : Level, x.position = base + 2 + slots →
      let x' : Rx := { x with position := x.position + 1, verdict2 := b }
      let decided : State := { s with
        line := { s.line with rx := some x' }
        judgement := s.judgement.map fun j =>
          { j with outcome := some (if x.verdict1 = .rest ∧ b = .rest then .taken else .void) } }
      let obs : FrameObs :=
        { cells := x.cells, rollCall := x.rollCall, verdict1 := x.verdict1, verdict2 := b, standing := x.standing }
      (x.cells.frameClass = 2 → s.frameBit b = decided) ∧
      (x.cells.frameClass ≠ 2 → exec (.frameEnd obs) decided = .next (s.frameBit b))) ∧
    ∀ (turn verdict1 verdict2 turn2 : Level) (calls stands : List Level), x.position = base → x.rollCall = [] →
      x.standing = [] → calls.length = slots → stands.length = slots →
      let picture : List Level → StationSet := fun l => (List.range 32).filter fun k => l.getD k .rest == .drive
      let bits := [turn] ++ calls ++ [verdict1, verdict2] ++
        (if x.cells.frameClass = 2 then [turn2] ++ stands else [])
      let obs : FrameObs :=
        { cells := x.cells, rollCall := picture calls, verdict1 := verdict1, verdict2 := verdict2,
          standing := if x.cells.frameClass = 2 then picture stands else [] }
      exec (.frameEnd obs) s = .next (bits.foldl (fun u b => u.frameBit b) s)

/-- R127, R107, R108: at a start moment with quiet time 12 to 40 the station asks for a frame; with none chosen only the
quiet time is counted; the frame of a chosen entry is fixed, the entry is on the line and the key mark is driven. Out of
QUIET (log 4, the model's inference) and with quiet time below 12 no frame is started. Straight after a FRAME_END the
last frame phase has closed by then, with quiet time 0 and LTX released (log 9). -/
def Obligations.FrameStartFixesTheFrame : Prop :=
  ∀ (q : Nat) (s : State),
    let waited : State := { s with
      line := { s.line with quiet := q }, outbound := { s.outbound with spent := s.outbound.spent && decide (q < 40) } }
    let run := exec (.frameStart q) s
    (s.line.tracking ≠ .quiet → s.line.tracking ≠ .ending → run = .next s) ∧
    (s.line.tracking = .ending →
      run = exec (.frameStart q) { s with line := { s.line with tracking := .quiet, quiet := 0, ltx := .rest } }) ∧
    (s.line.tracking = .quiet → s.line.quiet ≤ q → q < 12 → run = .next waited) ∧
    (s.line.tracking = .quiet → s.line.quiet ≤ q → 12 ≤ q → q ≤ 40 → waited.chosen = none → run = .next waited) ∧
    ∀ e, s.line.tracking = .quiet → s.line.quiet ≤ q → 12 ≤ q → q ≤ 40 → waited.chosen = some e →
      let entries := s.outbound.entries.map fun x => if x.kind = e.kind then { x with onLine := true } else x
      run = .next { waited with
        line := { waited.line with ltx := .drive }
        outbound := { waited.outbound with entries := entries, sending := waited.frameOf e.kind } }

/-- R34, R35, R122, R125, R127: a mark edge in QUIET accepts DRIVE at sample 3 of a new bit time, takes the line unit to
FRAME and opens a judgement in JOINING, SYNCING, SYNCED and HALTED; with quiet time 12 or more the station first asks
for a frame as at a start moment, and with less it does not. Out of QUIET the command KEY_MARK changes nothing (log 4,
the model's inference: an edge there is no key mark). Straight after a FRAME_END the last frame phase has closed by then
(log 9). -/
def Obligations.KeyMarkOpensTheFrame : Prop :=
  ∀ (q : Nat) (s : State),
    let rx : Rx :=
      { position := 0, cell := [], octets := [], endFault := false, rollCall := [], verdict1 := .rest, verdict2 := .rest,
        standing := [] }
    let opened : Option Judgement :=
      if s.station = .joining ∨ s.station = .syncing ∨ s.station = .synced ∨ s.station = .halted then
        some { reception := none, objection := none, foreign := false, ack := none, void := none, outcome := none
               abandoned := false }
      else none
    (s.line.tracking ≠ .quiet → s.line.tracking ≠ .ending → exec (.keyMark q) s = .next s) ∧
    (s.line.tracking = .ending → exec (.keyMark q) s =
      exec (.keyMark q) { s with line := { s.line with tracking := .quiet, quiet := 0, ltx := .rest } }) ∧
    (s.line.tracking = .quiet → s.line.quiet ≤ q → q ≤ 40 →
      ∃ u, exec (.frameStart q) s = .next u ∧ (q < 12 → u.outbound.entries = s.outbound.entries ∧ u.line.ltx = s.line.ltx) ∧
        exec (.keyMark q) s = .next { u with
          line := { u.line with tracking := .frame, rx := some rx, accepted := .drive, filterRun := 0, phase := 3 }
          judgement := opened })

/-- R110, R128, R118, R141: lost key arbitration returns the entry uncounted and in its place, or withdraws it where its
withdrawal waits, and then frees a drop-wanted slot; the station stops driving and receives on. Bit by bit: a data bit of
the key cell that it sends as REST and reads as DRIVE is this event at that bit. With no attempt on the line nothing changes
(log 4, the model's inference). -/
def Obligations.ArbitrationLossUncounted : Prop :=
  ∀ (s : State) (e : Entry),
    let quieted : LineUnit := { s.line with ltx := .rest }
    let returned := s.outbound.entries.map fun x => if x.onLine = true then { x with onLine := false } else x
    let rest := s.outbound.entries.filter fun x => !x.onLine
    (s.line.tracking ≠ .frame ∨ s.outbound.onLine = none → exec .arbitrationLoss s = .next s) ∧
    (s.line.tracking = .frame → s.outbound.onLine = some e → e.withdrawn = false →
      exec .arbitrationLoss s = .next { s with
        line := quieted, outbound := { s.outbound with entries := returned, sending := [] } }) ∧
    (s.line.tracking = .frame → s.outbound.onLine = some e → e.withdrawn = true →
      (∀ k, e.kind = .claim k → (s.slotAt k).dropWanted = true →
        exec .arbitrationLoss s = .next { s with
          line := quieted
          outbound := { s.outbound with entries := rest, sending := [] }
          slots := s.slots.modify k (Slot.become .free none) }) ∧
      ((∀ k, e.kind = .claim k → (s.slotAt k).dropWanted = false) →
        exec .arbitrationLoss s = .next { s with
          line := quieted, outbound := { s.outbound with entries := rest, sending := [] } })) ∧
    ∀ x, s.line.tracking = .frame → s.outbound.onLine = some e → s.line.rx = some x → 1 ≤ x.position → x.position ≤ 8 →
      sentLevel s.outbound.sending x.position = .rest →
      let x' : Rx := { x with position := x.position + 1, cell := x.cell ++ [false] }
      exec .arbitrationLoss { s with line := { s.line with rx := some x' } } = .next (s.frameBit .drive) ∧
        (s.frameBit .drive).outbound.onLine = none ∧ (s.frameBit .drive).line.ltx = .rest

/-- R129, R113, R114, R115, R116: a bit error after the key counts the attempt at once; the T-th makes the station
self-restart with detail RETRIES (R174), or halts it where the entry is a JOIN; an attempt whose withdrawal waits goes
uncounted, and R141: a drop-wanted slot becomes FREE with its CLAIM. Bit by bit: a data bit of a cell after the key that the
station sends as REST and reads as DRIVE is this event at that bit, and so is the end bit of a body or CRC cell, whose fault
the judgement records too. Past the last own CRC cell, where a sender that read its length as longer than it sent it reads
on, no bit is this event (log 40, the model's choice). R38: the judgement stays open, and keeps for R60 that the attempt was abandoned (log 35). -/
def Obligations.BitErrorCountsTheAttempt : Prop :=
  ∀ (s : State) (e : Entry), s.Inv → s.line.tracking = .frame → s.outbound.onLine = some e →
    let counted := s.outbound.entries.map fun x =>
      if x.onLine = true then { x with onLine := false, retries := x.retries + 1 } else x
    let freed : Slot :=
      { state := .free, mode := none, zones := [], reason := none, changed := true, dropWanted := false }
    let abandoned := s.judgement.map fun j => { j with abandoned := true }
    (e.withdrawn = false → e.retries + 1 < s.retryLimit →
      exec .bitError s = .next { s with
        line := { s.line with ltx := .rest }
        outbound := { s.outbound with entries := counted, sending := [] }
        judgement := abandoned }) ∧
    (e.withdrawn = false → e.retries + 1 = s.retryLimit → e.kind.isJoin = false →
      ∃ t, exec .bitError s = .next t ∧ s.SelfRestarts 2 t ∧ t.attention.roster = s.attention.roster ∧
        t.attention.foreign = s.attention.foreign) ∧
    (e.withdrawn = false → e.retries + 1 = s.retryLimit → e.kind.isJoin = true →
      ∃ t, exec .bitError s = .next t ∧ s.JoinFails t ∧ t.roster = s.roster ∧ t.line = { s.line with ltx := .rest } ∧
        t.lease.selfGuard = s.lease.selfGuard ∧ t.judgement = abandoned ∧
        t.attention.foreign = s.attention.foreign) ∧
    (e.withdrawn = true →
      ∃ t, exec .bitError s = .next t ∧ t.station = s.station ∧ t.line.ltx = .rest ∧ t.judgement = abandoned ∧
        t.outbound.entries = s.outbound.entries.filter (fun x => !x.onLine) ∧
        (∀ k, e.kind = .claim k → (s.slotAt k).dropWanted = true → t.slots = s.slots.set k freed) ∧
        ((∀ k, e.kind = .claim k → (s.slotAt k).dropWanted = false) → t.slots = s.slots)) ∧
    ∀ x, s.line.rx = some x → 10 ≤ x.position → x.position < x.cellBits →
      let sent := x.position < 10 * s.outbound.sending.length ∧ sentLevel s.outbound.sending x.position = .rest
      (¬sent → 20 ≤ x.position → x.position + 1 < x.cellBits → ∀ b : Level, b = .drive ∨ x.position % 10 ≠ 0 →
        (s.frameBit b).outbound = s.outbound ∧ (s.frameBit b).station = s.station ∧
          (s.frameBit b).line = { s.line with rx := (s.frameBit b).line.rx }) ∧
      (sent → 1 ≤ x.position % 10 → x.position % 10 ≤ 8 →
        let x' : Rx := { x with position := x.position + 1, cell := x.cell ++ [false] }
        exec .bitError { s with line := { s.line with rx := some x' } } = .next (s.frameBit .drive) ∧
          (s.frameBit .drive).outbound.onLine = none ∧ (s.frameBit .drive).line.ltx = .rest) ∧
      (sent → x.position % 10 = 9 → 20 ≤ x.position → x.octets.length = x.position / 10 →
        let x' : Rx :=
          { x with position := x.position + 1, cell := [], octets := x.octets ++ [octetOfBits x.cell], endFault := true }
        let faulted : State := { s with
          line := { s.line with rx := some x' }
          judgement := s.judgement.map fun j => { j with reception := some .error } }
        ∃ u, exec .bitError faulted = .next u ∧ s.frameBit .drive = { u with judgement := (s.frameBit .drive).judgement } ∧
          u.outbound.onLine = none ∧ u.line.ltx = .rest)

/-- R36, R126, R48: a frame broken off closes the judgement without a frame end and makes the station RECOVERING; with no
own frame on the line nothing else changes, and an own attempt is counted only for a DRIVE read in an end bit it
sent (log 14), from which REST bit on the 80 count being log 33. An attempt whose withdrawal waits goes, and R141: with it
a drop-wanted slot becomes FREE. R114, R115, R116: a count that comes to T makes the station self-restart with detail
RETRIES, or halts it where the entry is a JOIN. Out of FRAME nothing changes (log 4, the model's inference). R125: bit by
bit, a mark read REST is this event, at the key mark and at every later cell's mark, and so are a key or length cell's end
bit read DRIVE and, at the end bit of the length cell, a length above 40. -/
def Obligations.BrokenOffFrameRecovers : Prop :=
  (∀ (x : Rx) (s : State), s.line.tracking = .frame → s.line.rx = some x → x.position < x.cellBits →
    (x.position = 0 → exec (.frameBrokenOff .keyMarkRest) s = .next (s.frameBit .rest)) ∧
    (0 < x.position → x.position % 10 = 0 → exec (.frameBrokenOff .markRest) s = .next (s.frameBit .rest)) ∧
    (x.position = 9 → exec (.frameBrokenOff .keyEndDrive) s = .next (s.frameBit .drive)) ∧
    (x.position = 19 → exec (.frameBrokenOff .lengthEndDrive) s = .next (s.frameBit .drive)) ∧
    (x.position = 19 → 40 < (octetOfBits x.cell).toNat →
      exec (.frameBrokenOff .lengthAbove40) s = .next (s.frameBit .rest))) ∧
  ∀ (cause : BreakCause) (s : State), s.Inv →
    let drove := cause = .keyEndDrive ∨ cause = .lengthEndDrive
    let line : LineUnit :=
      { s.line with tracking := .recovering, ltx := .rest, rx := none, recoverRun := if drove then 0 else 1 }
    (s.line.tracking ≠ .frame → exec (.frameBrokenOff cause) s = .next s) ∧
    (s.line.tracking = .frame → s.outbound.onLine = none →
      exec (.frameBrokenOff cause) s = .next { s with line := line, judgement := none }) ∧
    (∀ e k, s.line.tracking = .frame → s.outbound.onLine = some e → e.withdrawn = true → e.kind = .claim k →
      (s.slotAt k).dropWanted = true →
      exec (.frameBrokenOff cause) s = .next { s with
        line := line
        judgement := none
        outbound := { s.outbound with entries := s.outbound.entries.filter (fun x => !x.onLine), sending := [] }
        slots := s.slots.set k
          { state := .free, mode := none, zones := [], reason := none, changed := true, dropWanted := false } }) ∧
    (∀ e, s.line.tracking = .frame → s.outbound.onLine = some e → e.withdrawn = false →
      (drove → e.retries + 1 < s.retryLimit) →
      let back := s.outbound.entries.map fun x =>
        if x.onLine = true then { x with onLine := false, retries := if drove then x.retries + 1 else x.retries } else x
      exec (.frameBrokenOff cause) s = .next { s with
        line := line, judgement := none, outbound := { s.outbound with entries := back, sending := [] } }) ∧
    ∀ e, s.line.tracking = .frame → s.outbound.onLine = some e → e.withdrawn = false → drove →
      e.retries + 1 = s.retryLimit →
      ∃ t, exec (.frameBrokenOff cause) s = .next t ∧ t.attention.foreign = s.attention.foreign ∧
        (e.kind.isJoin = false → s.SelfRestarts 2 t ∧ t.attention.roster = s.attention.roster) ∧
        (e.kind.isJoin = true → s.JoinFails t ∧ t.roster = s.roster ∧ t.line = line ∧ t.judgement = none ∧
          t.lease.selfGuard = s.lease.selfGuard)

/-- R60, R113, R61, R177, R119, R77: a frame received GOOD that is not the own attempt, and that bears the station's own
number or follows on a bit error at which the station abandoned its own attempt, halts a station in JOINING, SYNCING or
SYNCED at once: HALT is raised with CLASH, the latch set, LTX released, JOIN entries withdrawn, leases, pulse deadline and
window inactive, and all else kept. After a BIT_ERROR that exhausts nothing, the same frame completing GOOD under any key
does so. No other frame does: that clause rests, besides R60, on where the abandonment is kept (log 35) and, out of FRAME,
on log 4, the model's inferences. An attempt still on the line then, which only a key that shows it lost leaves, ends first
(log 13, the model's inference). -/
def Obligations.ClashHaltsTheStation : Prop :=
  ∀ (c : FrameCells) (s : State),
    let drives := s.station = .joining ∨ s.station = .syncing ∨ s.station = .synced
    let clash := s.line.tracking = .frame ∧ drives ∧ c.reception = .good ∧ s.ownAttempt c = false ∧
      (c.sender = s.own ∨ ∃ j, s.judgement = some j ∧ j.abandoned = true)
    (clash → ∃ t, exec (.identityClash c) s = .next t ∧ t.station = .halted ∧ t.roster = { s.roster with clash := true } ∧
      t.attention = { s.attention with halt := { pending := true, detail := 1 } } ∧ t.line = { s.line with ltx := .rest } ∧
      t.table = s.table ∧ t.census = { s.census with staging := [] } ∧
      t.lease = { s.lease with leases := [], pulse := .inactive, window := .inactive } ∧
      t.judgement = s.judgement ∧ (∀ b ∈ t.slots, b.dropWanted = false) ∧
      (s.outbound.onLine = none →
        t.outbound.entries = s.outbound.entries.filter (fun x => !x.kind.isJoin) ∧
        t.slots = s.slots.map (fun b => { b with dropWanted := false })) ∧
      (s.OutboundFits → s.outbound.onLine ≠ none →
        t.outbound.onLine = none ∧ ∀ x ∈ t.outbound.entries, x.kind.isJoin = false ∧ x.withdrawn = false)) ∧
    (∀ e, s.OutboundFits → s.line.tracking = .frame → drives → s.judgement ≠ none → s.outbound.onLine = some e →
      e.withdrawn = true ∨ e.retries + 1 < s.retryLimit → c.reception = .good →
      ∃ u t, exec .bitError s = .next u ∧ exec (.identityClash c) u = .next t ∧ t.station = .halted ∧
        t.roster.clash = true ∧ t.attention.halt = { pending := true, detail := 1 }) ∧
    (¬clash → exec (.identityClash c) s = .next s)

/-- R130, R131, R132: the line becomes STUCK: LTX is released, the frame on the line is abandoned uncounted, the judgement
discarded, tracking left, and LINE raised; 40 REST bits return it to NORMAL, RECOVERING and with the drive count 0.
Neither changes the station state. R141: a drop-wanted slot whose CLAIM was on the line becomes FREE. Bit by bit: in every
tracking state the 48th consecutive DRIVE bit makes the line STUCK and none before it; the 40th consecutive REST bit of a
STUCK line makes it NORMAL and none before it, a DRIVE bit setting that count to 0. That the 48th bit does nothing else, the
last bit of a frame among them, is log 45, the model's choice. STUCK on a STUCK line and LINE_NORMAL on
a NORMAL one change nothing (log 4, the model's inference). -/
def Obligations.LineConditionChanges : Prop :=
  ∀ s : State, s.OutboundFits → s.SlotsFit →
    let returned := s.outbound.entries.map fun x => if x.onLine = true then { x with onLine := false } else x
    let rest := s.outbound.entries.filter fun x => !x.onLine
    let freed : Slot :=
      { state := .free, mode := none, zones := [], reason := none, changed := true, dropWanted := false }
    let after : Nat → State := fun m => State.readBit^[m] s
    (s.line.sampling = true → s.line.condition = .normal →
      ∃ t, exec .stuck s = .next t ∧ t.station = s.station ∧ t.line.condition = .stuck ∧ t.line.ltx = .rest ∧
        t.line.tracking = .none ∧ t.line.rx = none ∧ t.judgement = none ∧
        t.attention = { s.attention with line := { pending := true, detail := 1 } } ∧
        t.table = s.table ∧ t.roster = s.roster ∧ t.census = s.census ∧ t.lease = s.lease ∧
        ((∀ e ∈ s.outbound.entries, e.withdrawn = false) → t.outbound.entries = returned ∧ t.slots = s.slots) ∧
        ∀ e ∈ s.outbound.entries, e.withdrawn = true → t.outbound.entries = rest ∧
          (∀ k, e.kind = .claim k → (s.slotAt k).dropWanted = true → t.slots = s.slots.set k freed) ∧
          ((∀ k, e.kind = .claim k → (s.slotAt k).dropWanted = false) → t.slots = s.slots)) ∧
    (s.line.condition = .stuck → exec .stuck s = .next s) ∧
    (s.line.condition = .stuck → exec .lineNormal s = .next { s with
      line := { s.line with condition := .normal, tracking := .recovering, recoverRun := 0, driveRun := 0, restRun := 0 }
      attention := { s.attention with line := { pending := true, detail := 0 } } }) ∧
    (s.line.condition = .normal → exec .lineNormal s = .next s) ∧
    (s.line.sampling = true → s.line.condition = .normal → s.line.accepted = .drive → s.line.driveRun = 0 →
      (∀ m, m < 48 → (after m).line.condition = .normal ∧ (after m).line.driveRun = m) ∧
      (after 48).line.condition = .stuck ∧ (after 48).line.ltx = .rest ∧ (after 48).line.tracking = .none ∧
      (after 48).attention.line = { pending := true, detail := 1 }) ∧
    (s.line.condition = .stuck → s.line.accepted = .rest → s.line.restRun = 0 →
      (∀ m, m < 40 → (after m).line.condition = .stuck ∧ (after m).line.restRun = m) ∧
      (after 40).line.condition = .normal ∧ (after 40).line.tracking = .recovering ∧ (after 40).line.driveRun = 0 ∧
      (after 40).attention.line = { pending := true, detail := 0 }) ∧
    (s.line.condition = .stuck → s.line.accepted = .drive → (after 1).line.restRun = 0 ∧ (after 1).line.condition = .stuck)

/-- R126, R117, R78: the 80th REST bit while RECOVERING on a NORMAL line makes the station frame-aware, in QUIET with
quiet time 40 and the spent flag clear, and takes a LISTEN station to JOINING with one JOIN entry; the round gap clears the
spent flag in QUIET. R125: bit by bit, the 80th consecutive REST bit is the first to do so, a DRIVE bit setting the count to
0; in QUIET each REST bit raises quiet time by 1 up to 40, and the spent flag clears there and not before. Straight after a
FRAME_END the last frame phase has closed by the round gap (log 9). Elsewhere both events change nothing (log 4, the model's
inference). -/
def Obligations.FrameAwareAndRoundGap : Prop :=
  ∀ s : State,
    let aware : LineUnit := { s.line with tracking := .quiet, quiet := 40, recoverRun := 0 }
    let join : Entry := { kind := .join false, retries := 0, onLine := false, withdrawn := false }
    let after : Nat → State := fun m => State.readBit^[m] s
    (s.line.tracking = .recovering → s.line.condition = .normal → s.station ≠ .listen →
      exec .frameAware s = .next { s with line := aware, outbound := { s.outbound with spent := false } }) ∧
    (s.line.tracking = .recovering → s.line.condition = .normal → s.station = .listen →
      (∀ e ∈ s.outbound.entries, e.kind.isJoin = false) →
      exec .frameAware s = .next { s with
        station := .joining
        line := aware
        outbound := { s.outbound with entries := s.outbound.entries ++ [join], spent := false } }) ∧
    (s.line.tracking ≠ .recovering ∨ s.line.condition = .stuck → exec .frameAware s = .next s) ∧
    (s.line.tracking = .quiet → exec .roundGap s = .next { s with
      line := { s.line with quiet := 40 }, outbound := { s.outbound with spent := false } }) ∧
    (s.line.tracking = .ending → exec .roundGap s = .next { s with
      line := { s.line with tracking := .quiet, quiet := 40, ltx := .rest }
      outbound := { s.outbound with spent := false } }) ∧
    (s.line.tracking ≠ .quiet → s.line.tracking ≠ .ending → exec .roundGap s = .next s) ∧
    (s.line.tracking = .recovering → s.line.condition = .normal → s.line.accepted = .rest → s.line.recoverRun = 0 →
      (∀ m, m < 80 → (after m).line.tracking = .recovering ∧ (after m).line.recoverRun = m ∧
        (after m).station = s.station) ∧
      (after 80).line.tracking = .quiet ∧ (after 80).line.quiet = 40 ∧ (after 80).outbound.spent = false ∧
      (after 80).station = if s.station = .listen then .joining else s.station) ∧
    (s.line.tracking = .recovering → s.line.condition = .normal → s.line.accepted = .drive → s.line.driveRun < 47 →
      (after 1).line.recoverRun = 0 ∧ (after 1).line.tracking = .recovering) ∧
    (s.line.tracking = .quiet → s.line.condition = .normal → s.line.accepted = .rest → s.line.quiet < 40 →
      ∀ m, 1 ≤ m → (after m).line.tracking = .quiet ∧ (after m).line.quiet = min 40 (s.line.quiet + m) ∧
        (after m).outbound.spent = (s.outbound.spent && decide (s.line.quiet + m < 40)))

/-! ### Deadlines -/

/-- R68, R73, R76, R94, R104: a deadline that is running is reached and enters its entry where its rule enters one: an
EXPIRE in SYNCED with the freeze off, a PULSE in SYNCED, a JOIN with PASS in SYNCING; a deadline that is not running is
not reached (logs 4 and 29, the model's inference and choice). That the commanded deadline is reached however many ticks
are left is the model's choice (log 5; the station's own clock counts them). -/
def Obligations.DeadlinesEnterTheirEntries : Prop :=
  ∀ (k : Nat) (s : State),
    let entered : EntryKind → (EntryKind → Bool) → List Entry := fun kind same =>
      if s.outbound.entries.any (fun e => same e.kind) then s.outbound.entries
      else s.outbound.entries ++ [{ kind := kind, retries := 0, onLine := false, withdrawn := false }]
    let reached := s.lease.leases.map fun x => if x.peer = k then { x with timer := .reached } else x
    (∀ n, s.lease.leaseOf k = .running n → s.station = .synced ∧ s.census.joiners = [] →
      exec (.peerLeaseReached k) s = .next { s with
        lease := { s.lease with leases := reached }
        outbound := { s.outbound with entries := entered (.expire k) (· == .expire k) } }) ∧
    (∀ n, s.lease.leaseOf k = .running n → s.station ≠ .synced ∨ s.census.joiners ≠ [] →
      exec (.peerLeaseReached k) s = .next { s with lease := { s.lease with leases := reached } }) ∧
    ((∀ n, s.lease.leaseOf k ≠ .running n) → exec (.peerLeaseReached k) s = .next s) ∧
    (∀ n, s.lease.pulse = .running n → s.station = .synced →
      exec .ownPulseDeadlineReached s = .next { s with
        lease := { s.lease with pulse := .reached }
        outbound := { s.outbound with entries := entered .pulse (· == .pulse) } }) ∧
    ((∀ n, s.lease.pulse ≠ .running n) → exec .ownPulseDeadlineReached s = .next s) ∧
    (∀ n, s.lease.window = .running n → s.station = .syncing →
      exec .censusWindowReached s = .next { s with
        lease := { s.lease with window := .reached }
        outbound := { s.outbound with entries := entered (.join true) EntryKind.isJoin } }) ∧
    ((∀ n, s.lease.window ≠ .running n) → exec .censusWindowReached s = .next s)

/-- R74, R75, R135, R144: the self guard, when running, is reached: every own record's WAITING or GRANTED slot becomes LOST
with reason FENCED and its changed flag set, and has a DROP entry; the new DROP entries stand in request-list order; no
other slot, no record and no attention source of the host port changes. That the commanded FENCE acts however many ticks are
left is the model's choice (log 5), and that it changes nothing where the self guard does not run its inference (log 4);
that a record whose slot is FREE, QUEUED or REFUSED is left alone is the model's choice too (log 37). -/
def Obligations.FenceWithdrawsTheGrants : Prop :=
  ∀ s : State, s.table.Distinct → s.slots.length = 8 →
    let tags := (s.table.requests.filter fun r => r.owner == s.own).map Record.tag
    let fenced := tags.filter fun k => (s.slotAt k).state == .waiting || (s.slotAt k).state == .granted
    (∀ n, s.lease.selfGuard = .running n →
      ∃ t, exec .fence s = .next t ∧ t.lease = { s.lease with selfGuard := .reached } ∧ t.station = s.station ∧
        t.table = s.table ∧ t.roster = s.roster ∧ t.census = s.census ∧ t.attention = s.attention ∧
        (∀ k, k < 8 → t.slotAt k =
          if k ∈ fenced then
            { s.slotAt k with state := .lost, reason := some .fenced, changed := true, dropWanted := false }
          else s.slotAt k) ∧
        t.outbound.entries = s.outbound.entries ++
          ((fenced.filter fun k => !s.outbound.entries.any fun e => e.kind == .drop k).map fun k =>
            { kind := .drop k, retries := 0, onLine := false, withdrawn := false })) ∧
    ((∀ n, s.lease.selfGuard ≠ .running n) → exec .fence s = .next s)

/-! ### Frame ends -/

/-- R47, R124, R125, R35, R177: a frame end at a station that follows a frame closes it: no judgement stays open, and
the line unit is in the last frame phase with its level held (log 9, the model's reading of sample 10 and sample 16),
LTX being released at a station that the frame end halts or parks; or it is RECOVERING with LTX released where the frame end
makes it self-restart (at sample 10 in each: log 44, the model's choice). In HALTED, PARKED and LISTEN nothing else changes, and neither does it in JOINING at a frame that is not
its own and no identity clash. Out of FRAME there is no frame end (log 4, the model's inference). -/
def Obligations.FrameEndClosesTheFrame : Prop :=
  ∀ (obs : FrameObs) (s : State),
    let closed : LineUnit := { s.line with tracking := .ending, rx := none }
    (s.line.tracking ≠ .frame → exec (.frameEnd obs) s = .next s) ∧
    (s.Inv → s.line.tracking = .frame → ∃ t, exec (.frameEnd obs) s = .next t ∧ t.judgement = none ∧
      (t.line = closed ∨
        ((t.station = .halted ∨ t.station = .parked) ∧ t.line = { closed with ltx := .rest }) ∨
        (t.station = .listen ∧ (s.station = .syncing ∨ s.station = .synced) ∧
          t.line = { closed with tracking := .recovering, recoverRun := 0, ltx := .rest }))) ∧
    (s.line.tracking = .frame → s.outbound.onLine = none →
      s.station = .halted ∨ s.station = .parked ∨ s.station = .listen ∨
        (s.station = .joining ∧ s.HearsOther obs) →
      exec (.frameEnd obs) s = .next { s with line := closed, judgement := none })

/-- R8, R13, R51, R85, R86: a PULSE taken at a member, SYNCED or SYNCING, with the freeze off or on, clears every miss count
and, in SYNCED, steps the sequence number, and changes no record, membership, census state, staging list, slot or source,
and the census window stays. R69, R73: a peer's takes from the outbound set an EXPIRE entry for its sender, and one for a
station, or a PULSE, without records; every other entry stays with its retry count. R111, R117: the station's own PULSE goes
from the outbound set and sets the spent flag. -/
def Obligations.TakenPulseOnlyRenews : Prop :=
  ∀ (obs : FrameObs) (s : State), s.Inv → s.station = .synced ∨ s.station = .syncing → s.HearsTaken obs .pulse →
    s.HearsPeer obs ∨ s.HearsOwn obs .pulse →
    let owns : Nat → Bool := fun k => s.table.requests.any fun r => r.owner == k
    ∃ t, exec (.frameEnd obs) s = .next t ∧ t.station = s.station ∧
      t.table = (if s.station = .synced then { s.table with sequence := s.table.sequence + 1 } else s.table) ∧
      t.roster = { s.roster with members := s.roster.members.map fun m => { m with misses := 0 } } ∧
      t.census = s.census ∧ t.slots = s.slots ∧ t.attention = s.attention ∧ t.lease.window = s.lease.window ∧
      (s.HearsPeer obs → t.outbound.spent = s.outbound.spent ∧
        t.outbound.entries = s.outbound.entries.filter fun e => match e.kind with
          | .expire k => k != obs.cells.sender && owns k
          | .pulse => owns s.own
          | _ => true) ∧
      (s.HearsOwn obs .pulse → s.station = .synced ∧ t.outbound.spent = true ∧
        ∀ e ∈ t.outbound.entries, e.kind ≠ .pulse)

/-- R8, R12, R16 to R19, R111, R117, R138, R141: a CLAIM taken in SYNCED is placed, with the grant pass granting nothing
more; its outcome reaches the sender's QUEUED slot, or settles it where it is drop-wanted; the own entry goes and the
station is spent. Nothing else of the table, roster, census state or attention changes but the cleared miss counts. That a
CLAIM this station objected to is placed where a disturbed verdict sample lets it be TAKEN is log 11, the model's
inference. -/
def Obligations.TakenClaimIsPlaced : Prop :=
  ∀ (obs : FrameObs) (s : State) (k : Nat) (m : Mode) (zones : List Nat), s.Inv → s.station = .synced →
    s.HearsTaken obs (.claim k m zones) → s.HearsPeer obs ∨ s.HearsOwn obs (.claim k) →
    let outcome := s.table.judgeClaim obs.cells.sender k m zones
    let b := s.slotAt k
    let freed : Slot :=
      { state := .free, mode := none, zones := [], reason := none, changed := true, dropWanted := false }
    ∃ t, exec (.frameEnd obs) s = .next t ∧ t.station = .synced ∧
      t.table = { s.table.place obs.cells.sender k m zones with sequence := s.table.sequence + 1 } ∧
      t.roster = { s.roster with members := s.roster.members.map fun m => { m with misses := 0 } } ∧
      t.census = s.census ∧ t.attention = s.attention ∧
      (s.HearsPeer obs → t.slots = s.slots ∧ t.outbound.spent = s.outbound.spent) ∧
      (s.HearsOwn obs (.claim k) → t.outbound.spent = true ∧ (∀ e ∈ t.outbound.entries, e.kind ≠ .claim k) ∧
        (b.state = .queued → b.dropWanted = false → t.slots = s.slots.set k
          (match outcome with
            | .granted => { b with state := .granted, reason := none, changed := true }
            | .waiting => { b with state := .waiting, reason := none, changed := true }
            | .refused reason => { b with state := .refused, reason := some reason, changed := true })) ∧
        (b.state = .queued → b.dropWanted = true → outcome = .granted ∨ outcome = .waiting →
          t.slots = s.slots.set k { b with state := .releasing, reason := none, changed := true, dropWanted := false } ∧
          ∃ e ∈ t.outbound.entries, e.kind = .drop k) ∧
        (∀ reason, b.state = .queued → b.dropWanted = true → outcome = .refused reason →
          t.slots = s.slots.set k freed))

/-- R8, R11, R14, R20, R111, R117, R139, R142: a DROP taken in SYNCED removes the sender's record of its tag and hands its
zones on; granted WAITING slots become GRANTED; the own DROP frees its RELEASING slot and leaves a LOST one. That a slot in
a state which these rules do not name stays is the model's choice (log 37), and that a DROP this station objected to is
applied where a disturbed verdict sample lets it be TAKEN its inference (log 11). -/
def Obligations.TakenDropRemovesTheRecord : Prop :=
  ∀ (obs : FrameObs) (s : State) (k : Nat), s.Inv → s.station = .synced → s.HearsTaken obs (.drop k) →
    s.HearsPeer obs ∨ s.HearsOwn obs (.drop k) →
    let gone : Nat → Nat → Bool := fun o j => o == obs.cells.sender && j == k
    let freed : Slot :=
      { state := .free, mode := none, zones := [], reason := none, changed := true, dropWanted := false }
    let settled := s.slotsAfterGrants (s.table.grantedWithout gone)
    ∃ t, exec (.frameEnd obs) s = .next t ∧ t.station = .synced ∧
      t.table = { s.table.without gone with sequence := s.table.sequence + 1 } ∧
      t.roster = { s.roster with members := s.roster.members.map fun m => { m with misses := 0 } } ∧
      t.census = s.census ∧ t.attention = s.attention ∧
      (s.HearsPeer obs → t.slots = settled ∧ t.outbound.spent = s.outbound.spent) ∧
      (s.HearsOwn obs (.drop k) → t.outbound.spent = true ∧ (∀ e ∈ t.outbound.entries, e.kind ≠ .drop k) ∧
        t.slots = if (s.slotAt k).state = .releasing then settled.set k freed else settled)

/-- R8, R11, R21, R69, R143: an EXPIRE taken in SYNCED removes every record of its target and hands the zones on; with this
station as target its slots that have a record go LOST with reason EXPIRED or FREE, a fenced one stays, and their DROP
entries are withdrawn; no EXPIRE entry for the target stays. That a stale record's FREE or REFUSED slot stays there, and a
FREE, QUEUED or REFUSED one at a grant, is the model's choice (log 37), and that an EXPIRE this station objected to is applied
where a disturbed verdict sample lets it be TAKEN its inference (log 11). -/
def Obligations.TakenExpireRemovesTheTarget : Prop :=
  ∀ (obs : FrameObs) (s : State) (k : Nat), s.Inv → s.station = .synced → s.HearsTaken obs (.expire k) →
    s.HearsPeer obs ∨ s.HearsOwn obs (.expire k) →
    let gone : Nat → Nat → Bool := fun o _ => o == k
    let tags := (s.table.requests.filter fun r => r.owner == k).map Record.tag
    let freed : Slot :=
      { state := .free, mode := none, zones := [], reason := none, changed := true, dropWanted := false }
    let expired : Slot → Slot := fun b => match b.state with
      | .waiting => { b with state := .lost, reason := some .expired, changed := true, dropWanted := false }
      | .granted => { b with state := .lost, reason := some .expired, changed := true, dropWanted := false }
      | .releasing => freed
      | _ => b
    ∃ t, exec (.frameEnd obs) s = .next t ∧ t.station = .synced ∧
      t.table = { s.table.without gone with sequence := s.table.sequence + 1 } ∧
      t.roster = { s.roster with members := s.roster.members.map fun m => { m with misses := 0 } } ∧
      t.census = s.census ∧ t.attention = s.attention ∧ t.outbound.spent = s.outbound.spent ∧
      (∀ e ∈ t.outbound.entries, e.kind ≠ .expire k) ∧
      (k ≠ s.own → t.slots = s.slotsAfterGrants (s.table.grantedWithout gone)) ∧
      (k = s.own → t.slots = s.slots.zipIdx.map (fun p => if p.2 ∈ tags then expired p.1 else p.1) ∧
        ∀ j ∈ tags, (s.slotAt j).state = .releasing ∨ (s.slotAt j).state = .lost →
          ∀ e ∈ t.outbound.entries, e.kind ≠ .drop j)

/-- R8, R11, R22, R57, R62: a peer's LEAVE taken in SYNCED outside the freeze removes its records and then its membership,
hands its zones on, and raises ROSTER with its number. R58: a SYNCING member, which has no table, takes the leaver out of
its roster and synced set too. There the freeze is on, so that only a disturbed verdict sample brings this about; that the
designated sender is then recomputed (R82), with the joiners set kept and ROSTER raised, is log 39, the model's
inference. That a FREE, QUEUED or REFUSED slot stays where its stale own record is granted is log 37, the model's choice. -/
def Obligations.TakenLeaveRemovesThePeer : Prop :=
  ∀ (obs : FrameObs) (s : State), s.Inv → (s.station = .synced ∧ s.census.joiners = []) ∨ s.station = .syncing →
    s.HearsTaken obs .leave → s.HearsPeer obs →
    let peer := obs.cells.sender
    let gone : Nat → Nat → Bool := fun o _ => o == peer
    let members := (s.roster.members.filter fun m => m.number != peer).map fun m => { m with misses := 0 }
    let synced := s.roster.synced.filter fun j => j != peer
    let pool := if synced = [] then members.map Member.number else synced
    let passOver := if pool.all s.census.passOver.contains = true then [] else s.census.passOver
    ∃ t, exec (.frameEnd obs) s = .next t ∧ t.station = s.station ∧
      t.table = (if s.station = .synced then { s.table.without gone with sequence := s.table.sequence + 1 }
        else s.table) ∧
      t.roster = { members := members, synced := synced, clash := s.roster.clash } ∧
      t.census = (if s.census.joiners = [] then s.census else
        { s.census with passOver := passOver, designated := (pool.filter fun j => !passOver.contains j).head? }) ∧
      (t.census.designated = some s.own ↔ ∃ e ∈ t.outbound.entries, e.kind.isCensus = true) ∧
      t.slots = s.slotsAfterGrants (s.table.grantedWithout gone) ∧
      t.attention = { s.attention with roster := { pending := true, detail := BitVec.ofNat 8 peer } } ∧
      t.outbound.spent = s.outbound.spent

/-- R100, R27, R50, R77, R119, R145, R150, R169: the own LEAVE taken parks the station with everything of the cell given up,
its slots settled for LEFT with drop-wanted clear, its QUEUED CLAIMs kept with counts 0, and STATE, not ROSTER, raised. -/
def Obligations.OwnLeaveParksTheStation : Prop :=
  ∀ (obs : FrameObs) (s : State), s.Inv → s.station = .synced → s.HearsTaken obs .leave → s.HearsOwn obs .leave →
    let freed : Slot :=
      { state := .free, mode := none, zones := [], reason := none, changed := true, dropWanted := false }
    let settle : Slot → Slot := fun b => match b.state with
      | .waiting => { b with state := .lost, reason := some .left, changed := true, dropWanted := false }
      | .granted => { b with state := .lost, reason := some .left, changed := true, dropWanted := false }
      | .releasing => freed
      | _ => { b with dropWanted := false }
    ∃ t, exec (.frameEnd obs) s = .next t ∧ t.station = .parked ∧
      t.table = { requests := [], zones := List.replicate 64 { holders := [], waiters := [] }, sequence := 0 } ∧
      t.census = Census.cleared ∧ t.roster = { members := [], synced := [], clash := false } ∧
      t.lease = { s.lease with leases := [], pulse := .inactive, selfGuard := .inactive, window := .inactive } ∧
      t.slots = s.slots.map settle ∧ t.outbound.spent = false ∧
      t.outbound.entries = (s.outbound.entries.filter fun e => match e.kind with
        | .claim k => (s.slotAt k).state == .queued
        | _ => false).map (fun e => { kind := e.kind, retries := 0, onLine := false, withdrawn := false }) ∧
      t.attention = { s.attention with state := { pending := true, detail := 5 } }

/-- R8, R23, R54, R62, R63, R81, R82, R83, R87, R94, R95: a JOIN taken at a member in SYNCED or SYNCING from a station
that did not stand: a SYNCED member removes a rejoiner's records and hands their zones on; the joiner is a member with
miss count 0; the synced set is the members that stood, the joiners set the others; progress is part 0 with no run; the
designated sender is the lowest of the pool not passed over, a pass JOIN passing over the designated sender as it stood;
the designated station holds the CENSUS entry of part 0 and no other does; a SYNCING member starts its window and has no
JOIN entry; ROSTER is raised, and FOREIGN for a foreign JOIN. R96: the own JOIN with PASS taken in SYNCING does the
same, its entry gone, the staging list kept and the station still in SYNCING. That a foreign JOIN so TAKEN, of a number R or
above too, beyond the bound of R49, is applied is log 11, the model's inference; that a FREE, QUEUED or REFUSED slot stays
where its stale own record is granted is log 37, the model's choice. -/
def Obligations.TakenJoinBringsTheFreeze : Prop :=
  ∀ (obs : FrameObs) (s : State) (pass : Bool), s.Inv → s.station = .synced ∨ s.station = .syncing →
    s.HearsTaken obs (.join pass) →
    s.HearsPeer obs ∨ (s.station = .syncing ∧ s.HearsOwn obs (.join pass)) → obs.cells.sender ∉ obs.standing →
    let joiner := obs.cells.sender
    let gone : Nat → Nat → Bool := fun o _ => o == joiner
    let rejoin := s.station = .synced ∧ s.isMember joiner = true
    let members := (List.range 32).filter fun j => j == joiner || s.isMember j
    let synced := members.filter fun j => obs.standing.contains j
    let passed := match pass && s.census.joiners.contains joiner, s.census.designated with
      | true, some d => (List.range 32).filter fun j => j == d || s.census.passOver.contains j
      | true, none => s.census.passOver
      | false, _ => []
    let pool := if synced = [] then members else synced
    let passOver := if pool.all passed.contains = true then [] else passed
    let designated := (pool.filter fun j => !passOver.contains j).head?
    let shown : Source := { pending := true, detail := BitVec.ofNat 8 joiner }
    let part : Entry := { kind := .census 0, retries := 0, onLine := false, withdrawn := false }
    ∃ t, exec (.frameEnd obs) s = .next t ∧ t.station = s.station ∧
      t.table.requests = (if rejoin then s.table.without gone else s.table).requests ∧
      t.table.zones = (if rejoin then s.table.without gone else s.table).zones ∧
      t.table.sequence = (if s.station = .synced then s.table.sequence + 1 else s.table.sequence) ∧
      t.roster = { members := members.map (fun j => { number := j, misses := 0 }), synced := synced,
                   clash := s.roster.clash } ∧
      t.census = { joiners := members.filter (fun j => !synced.contains j), passOver := passOver, progress := 0,
                   runCount := none, designated := designated, staging := s.census.staging } ∧
      t.outbound.entries.filter (fun e => e.kind.isCensus) = (if designated = some s.own then [part] else []) ∧
      (s.station = .syncing → t.lease.window = .running s.durations.window ∧
        ∀ e ∈ t.outbound.entries, e.kind.isJoin = false) ∧
      t.slots = (if rejoin then s.slotsAfterGrants (s.table.grantedWithout gone) else s.slots) ∧
      t.attention = { s.attention with
        roster := shown
        foreign := if s.foreignJoin obs.cells = true then shown else s.attention.foreign }

/-- R55, R80, R84, R87, R62, R169, R111: its own JOIN taken at a JOINING station: the stations of the roll-call picture
with itself become its members, with miss counts 0; alone it founds the cell and is SYNCED; else it is SYNCING, the synced
set the members that stood, the joiners set the others, the lowest of the synced set designated, the window running. Two
things here are the model's inference, for disturbed samples alone: an own standing slot sampled DRIVE puts the station in
the synced set, so that the joiners set can be empty and no sender designated (log 36), and a JOIN not received GOOD, or
whose key was misread, is taken by the verdict all the same (log 27). -/
def Obligations.OwnJoinTakenEntersTheCell : Prop :=
  ∀ (obs : FrameObs) (s : State) (pass : Bool), s.Inv → s.station = .joining → s.line.tracking = .frame →
    obs.taken = true → s.AttemptRuns obs (.join pass) →
    let members := (List.range 32).filter fun j => j == s.own || obs.rollCall.contains j
    let synced := members.filter fun j => obs.standing.contains j
    let joiners := members.filter fun j => !synced.contains j
    let designated := if joiners = [] then none else (if synced = [] then members else synced).head?
    let others := s.outbound.entries.filter fun e => !e.kind.isJoin && !e.kind.isCensus
    let part : Entry := { kind := .census 0, retries := 0, onLine := false, withdrawn := false }
    let shown : Source := { pending := true, detail := BitVec.ofNat 8 s.own }
    (members = [s.own] → ∃ t, exec (.frameEnd obs) s = .next t ∧ t.station = .synced ∧ t.table = Table.cleared ∧
      t.roster = { members := [{ number := s.own, misses := 0 }], synced := [s.own], clash := s.roster.clash } ∧
      t.census = Census.cleared ∧ t.slots = s.slots ∧
      t.outbound.entries = s.outbound.entries.filter (fun e => !e.onLine) ∧ t.outbound.spent = s.outbound.spent ∧
      t.attention = { s.attention with state := { pending := true, detail := 4 }, roster := shown }) ∧
    (members ≠ [s.own] → ∃ t, exec (.frameEnd obs) s = .next t ∧ t.station = .syncing ∧ t.table = Table.cleared ∧
      t.roster = { members := members.map (fun j => { number := j, misses := 0 }), synced := synced,
                   clash := s.roster.clash } ∧
      t.census = { joiners := joiners, passOver := [], progress := 0, runCount := none, designated := designated,
                   staging := [] } ∧
      t.lease = { s.lease with window := .running s.durations.window } ∧ t.slots = s.slots ∧
      t.outbound.entries = others ++ (if designated = some s.own then [part] else []) ∧
      t.outbound.spent = s.outbound.spent ∧ t.attention = { s.attention with roster := shown })

/-- R8, R25, R26, R58, R70, R87, R89, R91, R92, R94: a CENSUS part taken at a member: progress steps, part 0 fixes the run
part count and a SYNCING member stages the records; a part that is not the last moves the CENSUS entry of the designated
station on and restarts the window; the last one ends the freeze, makes the joiners synced and installs the staged table at
a SYNCING member, which is then SYNCED; leases found reached have their EXPIRE entries; R66: at the installation a lease
starts running for every other station that owns records in the installed table. That a part this station objected to is
applied where a disturbed verdict sample lets it be TAKEN is log 11, the model's inference. -/
def Obligations.TakenCensusPartAdvances : Prop :=
  ∀ (obs : FrameObs) (s : State) (p : Part), s.Inv → s.station = .synced ∨ s.station = .syncing →
    s.HearsTaken obs (.census p) → s.HearsPeer obs ∨ (∃ i, s.HearsOwn obs (.census i)) →
    let count := if p.index = 0 then some p.count else s.census.runCount
    let staged := (if p.index = 0 then [] else s.census.staging) ++ p.records
    let part : Entry := { kind := .census (s.census.progress + 1), retries := 0, onLine := false, withdrawn := false }
    let members := s.roster.members.map fun m => { m with misses := 0 }
    let synced := (List.range 32).filter fun j =>
      s.roster.synced.contains j || (s.census.joiners.contains j && s.isMember j)
    (some (s.census.progress + 1) ≠ count → ∃ t, exec (.frameEnd obs) s = .next t ∧ t.station = s.station ∧
      t.table.requests = s.table.requests ∧ t.table.zones = s.table.zones ∧
      t.table.sequence = (if s.station = .synced then s.table.sequence + 1 else s.table.sequence) ∧
      t.roster = { s.roster with members := members } ∧
      t.census = { s.census with
        progress := s.census.progress + 1
        runCount := count
        staging := if s.station = .syncing then staged else [] } ∧
      t.outbound.entries.filter (fun e => e.kind.isCensus) =
        (if s.census.joiners ≠ [] ∧ s.census.designated = some s.own then [part] else []) ∧
      (s.station = .syncing → t.lease.window = .running s.durations.window ∧
        ∀ e ∈ t.outbound.entries, e.kind.isJoin = false) ∧
      t.slots = s.slots ∧ t.attention = s.attention ∧ t.outbound.spent = s.outbound.spent) ∧
    (some (s.census.progress + 1) = count → ∃ t, exec (.frameEnd obs) s = .next t ∧ t.station = .synced ∧
      (s.station = .synced → t.table = { s.table with sequence := s.table.sequence + 1 } ∧ t.attention = s.attention) ∧
      (s.station = .syncing → t.table = Table.install staged p.sequence ∧ t.lease.window = .inactive ∧
        (∀ e ∈ t.outbound.entries, e.kind.isJoin = false) ∧
        (∀ k, t.lease.leaseOf k =
          if k < 32 ∧ k ≠ s.own ∧ ∃ r ∈ t.table.requests, r.owner = k then .running s.durations.lease
          else .inactive) ∧
        t.attention = { s.attention with state := { pending := true, detail := 4 } }) ∧
      t.roster = { s.roster with members := members, synced := synced } ∧
      t.census = Census.cleared ∧ (∀ e ∈ t.outbound.entries, e.kind.isCensus = false) ∧
      (s.census.joiners ≠ [] → ∀ k, t.lease.leaseOf k = .reached → ∃ e ∈ t.outbound.entries, e.kind = .expire k) ∧
      t.slots = s.slots ∧ t.outbound.spent = s.outbound.spent)

/-- R51, R52, R24, R62, R63, R76, R82, R93, R94: a frame that ends VOID at a member, with the member's own miss count short of E,
another station's, R38 one in which it abandoned its attempt, or its own, whatever key was read of it (R47), if that VOID
does not exhaust the own entry: each miss count is raised or cleared by the
roll-call picture; the peers that come to E leave the roster and the synced set, their records go and their zones are
handed on; under the freeze their going resets the run, or ends the census with the last joiner; ROSTER is raised once
with the lowest, and FOREIGN for a foreign JOIN. R66, R69, R70, R76, R87: with the records of the evicted their leases
and EXPIRE entries are gone, every other lease standing as it did; where the run is reset the designated station holds a
new CENSUS entry of part 0 and no other holds one; where the census ends there is no CENSUS entry, and leases found reached
have their EXPIRE entries. Either way progress is set to part 0, and a SYNCING member starts its window and has no
JOIN entry. R112: a VOID sets no spent
flag; R141: the slot of a drop-wanted own CLAIM becomes FREE. That a FREE, QUEUED or REFUSED slot stays where its stale own
record is granted is log 37, the model's choice. -/
def Obligations.VoidFrameEndCountsMisses : Prop :=
  ∀ (obs : FrameObs) (s : State), s.Inv → s.station = .synced ∨ s.station = .syncing → s.line.tracking = .frame →
    obs.taken = false → s.own ∉ s.reachingE obs.rollCall →
    let out := s.reachingE obs.rollCall
    s.HearsOther obs ∨ (∃ e, s.outbound.onLine = some e ∧ s.AttemptRuns obs e.kind ∧ s.AttemptStays out e) →
    let joiners := (List.range 32).filter fun j => s.census.joiners.contains j && !out.contains j
    let passOver := (List.range 32).filter fun j => s.census.passOver.contains j && !out.contains j
    let members := (s.roster.members.map (Member.afterRollCall obs.rollCall)).filter fun m => !out.contains m.number
    let synced := s.roster.synced.filter fun j => !out.contains j
    let pool := if synced = [] then members.map Member.number else synced
    let passed := if pool.all passOver.contains = true then [] else passOver
    ∃ t, exec (.frameEnd obs) s = .next t ∧ t.station = s.station ∧
      t.table = (if out = [] then s.table else s.table.without fun o _ => out.contains o) ∧
      t.roster = { members := members, synced := synced, clash := s.roster.clash } ∧
      (out = [] → t.census = s.census) ∧
      (out ≠ [] → s.census.joiners ≠ [] → joiners ≠ [] → t.census =
        { joiners := joiners, passOver := passed, progress := 0, runCount := none,
          designated := (pool.filter fun j => !passed.contains j).head?, staging := s.census.staging }) ∧
      (out ≠ [] → s.census.joiners ≠ [] → joiners = [] → t.census =
        { joiners := [], passOver := [], progress := 0, runCount := none, designated := none,
          staging := s.census.staging }) ∧
      (out ≠ [] → s.census.joiners = [] → t.census = { s.census with passOver := passOver }) ∧
      t.slots = s.freedWithAttempt
        (if out = [] then s.slots else s.slotsAfterGrants (s.table.grantedWithout fun o _ => out.contains o)) ∧
      t.outbound.spent = s.outbound.spent ∧
      t.attention = { s.attention with
        roster := match out.head? with
          | none => s.attention.roster
          | some k => { pending := true, detail := BitVec.ofNat 8 k }
        foreign := if s.foreignJoin obs.cells = true then { pending := true, detail := BitVec.ofNat 8 obs.cells.sender }
          else s.attention.foreign } ∧
      (∀ k, t.lease.leaseOf k = if ∃ r ∈ t.table.requests, r.owner = k then s.lease.leaseOf k else .inactive) ∧
      (∀ e ∈ t.outbound.entries, ∀ k, e.kind = .expire k → ∃ r ∈ t.table.requests, r.owner = k) ∧
      (out = [] ∨ s.census.joiners = [] → t.lease.window = s.lease.window ∧
        ((∀ e, s.outbound.onLine = some e → e.kind.isCensus = false) →
          t.outbound.entries.filter (fun e => e.kind.isCensus) = s.outbound.entries.filter fun e => e.kind.isCensus)) ∧
      (out ≠ [] → s.census.joiners ≠ [] → joiners ≠ [] →
        t.outbound.entries.filter (fun e => e.kind.isCensus) =
          (if t.census.designated = some s.own then
            [{ kind := .census 0, retries := 0, onLine := false, withdrawn := false }]
          else [])) ∧
      (out ≠ [] → s.census.joiners ≠ [] →
        (s.station = .synced → t.lease.window = s.lease.window) ∧
        (s.station = .syncing → t.lease.window = .running s.durations.window ∧
          ∀ e ∈ t.outbound.entries, e.kind.isJoin = false)) ∧
      (out ≠ [] → s.census.joiners ≠ [] → joiners = [] → (∀ e ∈ t.outbound.entries, e.kind.isCensus = false) ∧
        (s.station = .synced → ∀ k, t.lease.leaseOf k = .reached → ∃ e ∈ t.outbound.entries, e.kind = .expire k))

/-- R53, R112, R114, R115, R116, R173, R174: at a VOID frame end a member whose own miss count comes to E self-restarts
with OUT detail OWN_MISSES and without a ROSTER attention, an own attempt whose withdrawal waits settled first. R47: an own
attempt of any kind that was not abandoned, R79 a JOINING station's JOIN too, whatever key was read of it, is counted and
its entry returns; the T-th such count makes the
station self-restart with detail RETRIES, ROSTER being raised first where the frame end evicts (log 32, the model's
inference), or halts it for a JOIN. R69, R73, R87, R94: an attempt that is moot after the evictions of this frame end
(an EXPIRE or PULSE whose records are gone, a CENSUS part or JOIN with PASS whose run is reset or ended) goes uncounted, and so
does one whose withdrawal waits, R141: a drop-wanted slot becoming FREE with its CLAIM; an entry of its kind that stands
then is a new one of a run that was reset or ended. That LTX is released at the frame end itself is log 44, the model's
choice. What else such a frame end does is VoidFrameEndCountsMisses. -/
def Obligations.OwnTroubleAtVoidFrameEnd : Prop :=
  ∀ (obs : FrameObs) (s : State), s.Inv → s.station = .synced ∨ s.station = .syncing ∨ s.station = .joining →
    s.line.tracking = .frame → obs.taken = false →
    let out := s.reachingE obs.rollCall
    let settled : State := { s with
      slots := s.freedWithAttempt s.slots
      outbound := { s.outbound with entries := s.outbound.entries.filter fun x => !(x.onLine && x.withdrawn) } }
    let foreign : Source :=
      if s.foreignJoin obs.cells = true then { pending := true, detail := BitVec.ofNat 8 obs.cells.sender }
      else s.attention.foreign
    (s.HearsOther obs ∨ (∃ k, s.AttemptRuns obs k) → s.own ∈ out →
      ∃ t, exec (.frameEnd obs) s = .next t ∧ settled.SelfRestarts 1 t ∧ t.attention.roster = s.attention.roster ∧
        t.attention.foreign = foreign) ∧
    ∀ e, s.outbound.onLine = some e → s.AttemptRuns obs e.kind → s.own ∉ out →
      (s.AttemptStays out e →
        ∃ t, exec (.frameEnd obs) s = .next t ∧ t.station = s.station ∧ t.outbound.spent = s.outbound.spent ∧
          t.outbound.onLine = none ∧
          (out = [] → t.table = s.table ∧ t.slots = s.freedWithAttempt s.slots) ∧
          (e.withdrawn = false → s.mootAtVoid out e.kind = false →
            { e with retries := e.retries + 1, onLine := false } ∈ t.outbound.entries) ∧
          (e.withdrawn = true ∨ s.mootAtVoid out e.kind = true →
            ∀ x ∈ t.outbound.entries, x.kind = e.kind →
              out ≠ [] ∧ s.census.joiners ≠ [] ∧ x.retries = 0 ∧ x.onLine = false)) ∧
      (e.withdrawn = false → s.mootAtVoid out e.kind = false → e.retries + 1 = s.retryLimit →
        (e.kind.isJoin = false →
          ∃ t, exec (.frameEnd obs) s = .next t ∧ s.SelfRestarts 2 t ∧ t.attention.foreign = foreign ∧
            t.attention.roster = match out.head? with
              | none => s.attention.roster
              | some k => { pending := true, detail := BitVec.ofNat 8 k }) ∧
        (e.kind.isJoin = true → out = [] →
          ∃ t, exec (.frameEnd obs) s = .next t ∧ s.JoinFails t ∧ t.attention.foreign = foreign ∧
            t.roster = { s.roster with members := s.roster.members.map (Member.afterRollCall obs.rollCall) }))

/-- R47, R66, R67, R69, R71, R72, R73, R74: the lease unit at a TAKEN frame end of a station that is and stays SYNCED, however
that station received the frame: a lease for every peer that owns records and for no other, set running at the peer's own
frame and when it comes into being; the own timers inactive without own records, set running by an own frame and when own
records appear; EXPIRE entries only for peers that own records and were not heard, no PULSE entry after an own frame. R111,
R117: an own attempt that was not abandoned, whatever key was read of it, leaves the line and spends in classes 4 to 6;
received with an error it leaves no entry of its kind, but the CENSUS entry that R87 asks for (log 10, the model's
inference). R134: a CLAIM that so leaves the line leaves its slot without drop-wanted. That a frame of the own number after
an abandoned attempt is no own frame to the lease unit is log 41, the model's choice. -/
def Obligations.LeaseUnitAtTakenFrameEnd : Prop :=
  ∀ (obs : FrameObs) (s : State), s.Inv → s.station = .synced → s.line.tracking = .frame → obs.taken = true →
    (∀ k ∈ s.roster.roster, k ∈ obs.rollCall) → s.HearsOther obs ∨ (∃ k, s.AttemptRuns obs k) →
    (obs.cells.sender = s.own → obs.cells.reception = .good → s.parse obs.cells ≠ some .leave) →
    ∃ t, exec (.frameEnd obs) s = .next t ∧ t.station = .synced ∧
      (∀ k, t.lease.leaseOf k =
        if 32 ≤ k ∨ k = s.own ∨ (∀ r ∈ t.table.requests, r.owner ≠ k) then .inactive
        else if k = obs.cells.sender ∨ s.lease.leaseOf k = .inactive then .running s.durations.lease
        else s.lease.leaseOf k) ∧
      ((∀ r ∈ t.table.requests, r.owner ≠ s.own) → t.lease.pulse = .inactive ∧ t.lease.selfGuard = .inactive ∧
        ∀ e ∈ t.outbound.entries, e.kind ≠ .pulse) ∧
      ((∃ r ∈ t.table.requests, r.owner = s.own) →
        (s.outbound.onLine ≠ none ∨ s.lease.selfGuard = .inactive →
          t.lease.pulse = .running s.durations.pulse ∧ t.lease.selfGuard = .running s.durations.selfGuard) ∧
        (s.outbound.onLine = none → s.lease.selfGuard ≠ .inactive →
          t.lease.pulse = s.lease.pulse ∧ t.lease.selfGuard = s.lease.selfGuard)) ∧
      (s.outbound.onLine ≠ none → ∀ e ∈ t.outbound.entries, e.kind ≠ .pulse) ∧
      (∀ e, s.outbound.onLine = some e → t.outbound.onLine = none ∧
        t.outbound.spent = (s.outbound.spent || decide (4 ≤ e.kind.frameClass)) ∧
        (∀ k, e.kind = .claim k → (t.slotAt k).dropWanted = false) ∧
        (obs.cells.reception = .error → e.kind.isCensus = false → ∀ x ∈ t.outbound.entries, x.kind ≠ e.kind)) ∧
      (∀ e ∈ t.outbound.entries, ∀ k, e.kind = .expire k →
        k ≠ obs.cells.sender ∧ ∃ r ∈ t.table.requests, r.owner = k) ∧
      t.lease.durations = s.lease.durations ∧ t.lease.window = s.lease.window

/-! ### What every step keeps -/

/-- R1, R2, R4, R6, R7, R12: every step keeps the zone table well formed: records in their ranges and distinct, the zone
entries those the request list calls for, oldest first, no zone over its capacity, nothing grantable left WAITING. The one
step that can bring in another's table is the installation of a census (R26), which is a premise for that step alone. -/
def Obligations.TableInvariantKept : Prop :=
  ∀ s t : State, s.Inv → step s = .next t → (s.station = .syncing → t.station = .synced → t.table.Wf) → t.table.Wf

/-- R13, R27, R66, R134, R171: every step keeps the eight slots with the fields their states call for, the zone table clear
outside SYNCED and HALTED, one lease for every peer that owns records at a SYNCED station and none elsewhere, and the
configuration one that START accepted in every state but CONFIG. -/
def Obligations.SlotsAndPlacesKept : Prop :=
  ∀ s t : State, s.Inv → step s = .next t → t.SlotsFit ∧ t.TableWhere ∧ t.ConfigFits ∧ t.LeasesFit

/-- R2, R74, R134, R136, R138, R142, R143, R145 and section 8.2 of 08: every step whose frame end, if it brings one, is
that of undisturbed samples (R45, R46, with an own frame read with its number and class, and a CLAIM or DROP with its
content), and whose installed table, if it
installs one, belongs to members and not to this station (R92), keeps the slots, the table and the outbound set in
agreement: a WAITING or GRANTED slot has its record with that status, mode and zone set, a RELEASING slot its record and
its DROP entry, a QUEUED slot its CLAIM entry and no record, a LOST slot a DROP entry exactly where it is linked, a FREE
or REFUSED slot nothing; and every record's owner stays a member. -/
def Obligations.SlotsAgreeWithTheTable : Prop :=
  ∀ s t : State, s.Inv → s.SlotsAgree → s.OwnersAreMembers → step s = .next t → s.SoundStep t →
    t.SlotsAgree ∧ t.OwnersAreMembers

/-- R103, R104, R105, R109, R114, R119, R168: every step keeps the outbound set free of a second entry for one request
and of a second frame on the line, every withdrawal that waits with the frame on the line and every retry count below T,
every entry, and the frame on the line, in a station state that allows it, and the line released where the station may
not drive. -/
def Obligations.OutboundInvariantKept : Prop :=
  ∀ s t : State, s.Inv → step s = .next t → t.OutboundFits ∧ t.EntriesWhere ∧ t.SilentWhere

/-- R49, R52, R81, R82: every step keeps the roster a set of station numbers with miss counts below E, the synced set
within it, the station its own member in SYNCING and SYNCED, the designated sender a member and none without the freeze,
and roster and census state clear outside SYNCING, SYNCED and HALTED. A step whose frame end, if it brings one, is that of
undisturbed samples (R45, R46) also keeps the bounds of R81: joiners and passed-over stations members, progress 0 to 11 and
below the run part count of 1 to 12, the cleared values with the freeze off, and a designated sender with the freeze on. -/
def Obligations.RosterAndCensusKept : Prop :=
  ∀ s t : State, s.Inv → step s = .next t → t.RosterFits ∧ t.CensusFits ∧
    (s.CensusBounds → s.SoundStep t → t.CensusBounds)

/-- R13, R47, R82: two SYNCED stations of one cell with the same table, sequence number, census state, roster, miss counts
and synced set that follow the same frame to its end, and are both SYNCED after it, still have them all the same, whichever
of them, or neither, sent it. It is the one statement about two stations (log 31). -/
def Obligations.StationsStayAgreed : Prop :=
  ∀ (obs : FrameObs) (a b a' b' : State), a.Inv → b.Inv → a.station = .synced → b.station = .synced →
    a.table = b.table → a.census = b.census → a.roster.members = b.roster.members → a.roster.synced = b.roster.synced →
    a.config.rosterSlots = b.config.rosterSlots → a.config.zoneCount = b.config.zoneCount →
    a.config.evict = b.config.evict → a.line.tracking = .frame → b.line.tracking = .frame →
    exec (.frameEnd obs) a = .next a' → exec (.frameEnd obs) b = .next b' → a'.station = .synced →
    b'.station = .synced →
    a'.table = b'.table ∧ a'.census = b'.census ∧ a'.roster.members = b'.roster.members ∧
      a'.roster.synced = b'.roster.synced
end

