-- ==== Sys2Proof/Laws/State.lean ====
section
/-! SUPPORT. Laws/State.lean: for every update of the state, one lemma per field that says what the field holds after it. -/

namespace Sys2Proof.Machine

/-! R153: the kept response. -/

@[simp] theorem State.respond_station (a : Answer) (d : List Byte) (s : State) :
    (s.respond a d).station = s.station := rfl
@[simp] theorem State.respond_config (a : Answer) (d : List Byte) (s : State) :
    (s.respond a d).config = s.config := rfl
@[simp] theorem State.respond_table (a : Answer) (d : List Byte) (s : State) :
    (s.respond a d).table = s.table := rfl
@[simp] theorem State.respond_census (a : Answer) (d : List Byte) (s : State) :
    (s.respond a d).census = s.census := rfl
@[simp] theorem State.respond_roster (a : Answer) (d : List Byte) (s : State) :
    (s.respond a d).roster = s.roster := rfl
@[simp] theorem State.respond_lease (a : Answer) (d : List Byte) (s : State) :
    (s.respond a d).lease = s.lease := rfl
@[simp] theorem State.respond_outbound (a : Answer) (d : List Byte) (s : State) :
    (s.respond a d).outbound = s.outbound := rfl
@[simp] theorem State.respond_slots (a : Answer) (d : List Byte) (s : State) :
    (s.respond a d).slots = s.slots := rfl
@[simp] theorem State.respond_attention (a : Answer) (d : List Byte) (s : State) :
    (s.respond a d).attention = s.attention := rfl
@[simp] theorem State.respond_port (a : Answer) (d : List Byte) (s : State) :
    (s.respond a d).port = .kept (a.code :: d) 0 := rfl
@[simp] theorem State.respond_line (a : Answer) (d : List Byte) (s : State) :
    (s.respond a d).line = s.line := rfl
@[simp] theorem State.respond_judgement (a : Answer) (d : List Byte) (s : State) :
    (s.respond a d).judgement = s.judgement := rfl
@[simp] theorem State.respond_resetnLow (a : Answer) (d : List Byte) (s : State) :
    (s.respond a d).resetnLow = s.resetnLow := rfl
@[simp] theorem State.respond_pending (a : Answer) (d : List Byte) (s : State) :
    (s.respond a d).pending = s.pending := rfl

/-! R152: the broken transaction. -/

@[simp] theorem State.breakTransaction_station (s : State) :
    (s.breakTransaction).station = s.station := rfl
@[simp] theorem State.breakTransaction_config (s : State) :
    (s.breakTransaction).config = s.config := rfl
@[simp] theorem State.breakTransaction_table (s : State) :
    (s.breakTransaction).table = s.table := rfl
@[simp] theorem State.breakTransaction_census (s : State) :
    (s.breakTransaction).census = s.census := rfl
@[simp] theorem State.breakTransaction_roster (s : State) :
    (s.breakTransaction).roster = s.roster := rfl
@[simp] theorem State.breakTransaction_lease (s : State) :
    (s.breakTransaction).lease = s.lease := rfl
@[simp] theorem State.breakTransaction_outbound (s : State) :
    (s.breakTransaction).outbound = s.outbound := rfl
@[simp] theorem State.breakTransaction_slots (s : State) :
    (s.breakTransaction).slots = s.slots := rfl
@[simp] theorem State.breakTransaction_attention (s : State) :
    (s.breakTransaction).attention = s.attention := rfl
@[simp] theorem State.breakTransaction_port (s : State) :
    (s.breakTransaction).port = .idle := rfl
@[simp] theorem State.breakTransaction_line (s : State) :
    (s.breakTransaction).line = s.line := rfl
@[simp] theorem State.breakTransaction_judgement (s : State) :
    (s.breakTransaction).judgement = s.judgement := rfl
@[simp] theorem State.breakTransaction_resetnLow (s : State) :
    (s.breakTransaction).resetnLow = s.resetnLow := rfl
@[simp] theorem State.breakTransaction_pending (s : State) :
    (s.breakTransaction).pending = s.pending := rfl

/-! R135: one slot changed. -/

@[simp] theorem State.updateSlot_station (k : Nat) (f : Slot → Slot) (s : State) :
    (s.updateSlot k f).station = s.station := rfl
@[simp] theorem State.updateSlot_config (k : Nat) (f : Slot → Slot) (s : State) :
    (s.updateSlot k f).config = s.config := rfl
@[simp] theorem State.updateSlot_table (k : Nat) (f : Slot → Slot) (s : State) :
    (s.updateSlot k f).table = s.table := rfl
@[simp] theorem State.updateSlot_census (k : Nat) (f : Slot → Slot) (s : State) :
    (s.updateSlot k f).census = s.census := rfl
@[simp] theorem State.updateSlot_roster (k : Nat) (f : Slot → Slot) (s : State) :
    (s.updateSlot k f).roster = s.roster := rfl
@[simp] theorem State.updateSlot_lease (k : Nat) (f : Slot → Slot) (s : State) :
    (s.updateSlot k f).lease = s.lease := rfl
@[simp] theorem State.updateSlot_outbound (k : Nat) (f : Slot → Slot) (s : State) :
    (s.updateSlot k f).outbound = s.outbound := rfl
@[simp] theorem State.updateSlot_slots (k : Nat) (f : Slot → Slot) (s : State) :
    (s.updateSlot k f).slots = s.slots.modify k f := rfl
@[simp] theorem State.updateSlot_attention (k : Nat) (f : Slot → Slot) (s : State) :
    (s.updateSlot k f).attention = s.attention := rfl
@[simp] theorem State.updateSlot_port (k : Nat) (f : Slot → Slot) (s : State) :
    (s.updateSlot k f).port = s.port := rfl
@[simp] theorem State.updateSlot_line (k : Nat) (f : Slot → Slot) (s : State) :
    (s.updateSlot k f).line = s.line := rfl
@[simp] theorem State.updateSlot_judgement (k : Nat) (f : Slot → Slot) (s : State) :
    (s.updateSlot k f).judgement = s.judgement := rfl
@[simp] theorem State.updateSlot_resetnLow (k : Nat) (f : Slot → Slot) (s : State) :
    (s.updateSlot k f).resetnLow = s.resetnLow := rfl
@[simp] theorem State.updateSlot_pending (k : Nat) (f : Slot → Slot) (s : State) :
    (s.updateSlot k f).pending = s.pending := rfl

/-! R177: HALT raised. -/

@[simp] theorem State.raiseHalt_station (c : HaltCause) (s : State) :
    (s.raiseHalt c).station = s.station := rfl
@[simp] theorem State.raiseHalt_config (c : HaltCause) (s : State) :
    (s.raiseHalt c).config = s.config := rfl
@[simp] theorem State.raiseHalt_table (c : HaltCause) (s : State) :
    (s.raiseHalt c).table = s.table := rfl
@[simp] theorem State.raiseHalt_census (c : HaltCause) (s : State) :
    (s.raiseHalt c).census = s.census := rfl
@[simp] theorem State.raiseHalt_roster (c : HaltCause) (s : State) :
    (s.raiseHalt c).roster = s.roster := rfl
@[simp] theorem State.raiseHalt_lease (c : HaltCause) (s : State) :
    (s.raiseHalt c).lease = s.lease := rfl
@[simp] theorem State.raiseHalt_outbound (c : HaltCause) (s : State) :
    (s.raiseHalt c).outbound = s.outbound := rfl
@[simp] theorem State.raiseHalt_slots (c : HaltCause) (s : State) :
    (s.raiseHalt c).slots = s.slots := rfl
@[simp] theorem State.raiseHalt_attention (c : HaltCause) (s : State) :
    (s.raiseHalt c).attention = { s.attention with halt := .raised c.code } := rfl
@[simp] theorem State.raiseHalt_port (c : HaltCause) (s : State) :
    (s.raiseHalt c).port = s.port := rfl
@[simp] theorem State.raiseHalt_line (c : HaltCause) (s : State) :
    (s.raiseHalt c).line = s.line := rfl
@[simp] theorem State.raiseHalt_judgement (c : HaltCause) (s : State) :
    (s.raiseHalt c).judgement = s.judgement := rfl
@[simp] theorem State.raiseHalt_resetnLow (c : HaltCause) (s : State) :
    (s.raiseHalt c).resetnLow = s.resetnLow := rfl
@[simp] theorem State.raiseHalt_pending (c : HaltCause) (s : State) :
    (s.raiseHalt c).pending = s.pending := rfl

/-! R173: OUT raised. -/

@[simp] theorem State.raiseOut_station (c : OutCause) (s : State) :
    (s.raiseOut c).station = s.station := rfl
@[simp] theorem State.raiseOut_config (c : OutCause) (s : State) :
    (s.raiseOut c).config = s.config := rfl
@[simp] theorem State.raiseOut_table (c : OutCause) (s : State) :
    (s.raiseOut c).table = s.table := rfl
@[simp] theorem State.raiseOut_census (c : OutCause) (s : State) :
    (s.raiseOut c).census = s.census := rfl
@[simp] theorem State.raiseOut_roster (c : OutCause) (s : State) :
    (s.raiseOut c).roster = s.roster := rfl
@[simp] theorem State.raiseOut_lease (c : OutCause) (s : State) :
    (s.raiseOut c).lease = s.lease := rfl
@[simp] theorem State.raiseOut_outbound (c : OutCause) (s : State) :
    (s.raiseOut c).outbound = s.outbound := rfl
@[simp] theorem State.raiseOut_slots (c : OutCause) (s : State) :
    (s.raiseOut c).slots = s.slots := rfl
@[simp] theorem State.raiseOut_attention (c : OutCause) (s : State) :
    (s.raiseOut c).attention = { s.attention with out := .raised c.code } := rfl
@[simp] theorem State.raiseOut_port (c : OutCause) (s : State) :
    (s.raiseOut c).port = s.port := rfl
@[simp] theorem State.raiseOut_line (c : OutCause) (s : State) :
    (s.raiseOut c).line = s.line := rfl
@[simp] theorem State.raiseOut_judgement (c : OutCause) (s : State) :
    (s.raiseOut c).judgement = s.judgement := rfl
@[simp] theorem State.raiseOut_resetnLow (c : OutCause) (s : State) :
    (s.raiseOut c).resetnLow = s.resetnLow := rfl
@[simp] theorem State.raiseOut_pending (c : OutCause) (s : State) :
    (s.raiseOut c).pending = s.pending := rfl

/-! R132: LINE raised. -/

@[simp] theorem State.raiseLine_station (s : State) :
    (s.raiseLine).station = s.station := rfl
@[simp] theorem State.raiseLine_config (s : State) :
    (s.raiseLine).config = s.config := rfl
@[simp] theorem State.raiseLine_table (s : State) :
    (s.raiseLine).table = s.table := rfl
@[simp] theorem State.raiseLine_census (s : State) :
    (s.raiseLine).census = s.census := rfl
@[simp] theorem State.raiseLine_roster (s : State) :
    (s.raiseLine).roster = s.roster := rfl
@[simp] theorem State.raiseLine_lease (s : State) :
    (s.raiseLine).lease = s.lease := rfl
@[simp] theorem State.raiseLine_outbound (s : State) :
    (s.raiseLine).outbound = s.outbound := rfl
@[simp] theorem State.raiseLine_slots (s : State) :
    (s.raiseLine).slots = s.slots := rfl
@[simp] theorem State.raiseLine_attention (s : State) :
    (s.raiseLine).attention = { s.attention with line := .raised s.line.condition.code } := rfl
@[simp] theorem State.raiseLine_port (s : State) :
    (s.raiseLine).port = s.port := rfl
@[simp] theorem State.raiseLine_line (s : State) :
    (s.raiseLine).line = s.line := rfl
@[simp] theorem State.raiseLine_judgement (s : State) :
    (s.raiseLine).judgement = s.judgement := rfl
@[simp] theorem State.raiseLine_resetnLow (s : State) :
    (s.raiseLine).resetnLow = s.resetnLow := rfl
@[simp] theorem State.raiseLine_pending (s : State) :
    (s.raiseLine).pending = s.pending := rfl

/-! R169: STATE raised. -/

@[simp] theorem State.raiseState_station (s : State) :
    (s.raiseState).station = s.station := rfl
@[simp] theorem State.raiseState_config (s : State) :
    (s.raiseState).config = s.config := rfl
@[simp] theorem State.raiseState_table (s : State) :
    (s.raiseState).table = s.table := rfl
@[simp] theorem State.raiseState_census (s : State) :
    (s.raiseState).census = s.census := rfl
@[simp] theorem State.raiseState_roster (s : State) :
    (s.raiseState).roster = s.roster := rfl
@[simp] theorem State.raiseState_lease (s : State) :
    (s.raiseState).lease = s.lease := rfl
@[simp] theorem State.raiseState_outbound (s : State) :
    (s.raiseState).outbound = s.outbound := rfl
@[simp] theorem State.raiseState_slots (s : State) :
    (s.raiseState).slots = s.slots := rfl
@[simp] theorem State.raiseState_attention (s : State) :
    (s.raiseState).attention = { s.attention with state := .raised s.station.code } := rfl
@[simp] theorem State.raiseState_port (s : State) :
    (s.raiseState).port = s.port := rfl
@[simp] theorem State.raiseState_line (s : State) :
    (s.raiseState).line = s.line := rfl
@[simp] theorem State.raiseState_judgement (s : State) :
    (s.raiseState).judgement = s.judgement := rfl
@[simp] theorem State.raiseState_resetnLow (s : State) :
    (s.raiseState).resetnLow = s.resetnLow := rfl
@[simp] theorem State.raiseState_pending (s : State) :
    (s.raiseState).pending = s.pending := rfl

/-! R62: ROSTER raised. -/

@[simp] theorem State.raiseRoster_station (k : Nat) (s : State) :
    (s.raiseRoster k).station = s.station := rfl
@[simp] theorem State.raiseRoster_config (k : Nat) (s : State) :
    (s.raiseRoster k).config = s.config := rfl
@[simp] theorem State.raiseRoster_table (k : Nat) (s : State) :
    (s.raiseRoster k).table = s.table := rfl
@[simp] theorem State.raiseRoster_census (k : Nat) (s : State) :
    (s.raiseRoster k).census = s.census := rfl
@[simp] theorem State.raiseRoster_roster (k : Nat) (s : State) :
    (s.raiseRoster k).roster = s.roster := rfl
@[simp] theorem State.raiseRoster_lease (k : Nat) (s : State) :
    (s.raiseRoster k).lease = s.lease := rfl
@[simp] theorem State.raiseRoster_outbound (k : Nat) (s : State) :
    (s.raiseRoster k).outbound = s.outbound := rfl
@[simp] theorem State.raiseRoster_slots (k : Nat) (s : State) :
    (s.raiseRoster k).slots = s.slots := rfl
@[simp] theorem State.raiseRoster_attention (k : Nat) (s : State) :
    (s.raiseRoster k).attention = { s.attention with roster := .raised (octet k) } := rfl
@[simp] theorem State.raiseRoster_port (k : Nat) (s : State) :
    (s.raiseRoster k).port = s.port := rfl
@[simp] theorem State.raiseRoster_line (k : Nat) (s : State) :
    (s.raiseRoster k).line = s.line := rfl
@[simp] theorem State.raiseRoster_judgement (k : Nat) (s : State) :
    (s.raiseRoster k).judgement = s.judgement := rfl
@[simp] theorem State.raiseRoster_resetnLow (k : Nat) (s : State) :
    (s.raiseRoster k).resetnLow = s.resetnLow := rfl
@[simp] theorem State.raiseRoster_pending (k : Nat) (s : State) :
    (s.raiseRoster k).pending = s.pending := rfl

/-! R63: FOREIGN raised. -/

@[simp] theorem State.raiseForeign_station (k : Nat) (s : State) :
    (s.raiseForeign k).station = s.station := rfl
@[simp] theorem State.raiseForeign_config (k : Nat) (s : State) :
    (s.raiseForeign k).config = s.config := rfl
@[simp] theorem State.raiseForeign_table (k : Nat) (s : State) :
    (s.raiseForeign k).table = s.table := rfl
@[simp] theorem State.raiseForeign_census (k : Nat) (s : State) :
    (s.raiseForeign k).census = s.census := rfl
@[simp] theorem State.raiseForeign_roster (k : Nat) (s : State) :
    (s.raiseForeign k).roster = s.roster := rfl
@[simp] theorem State.raiseForeign_lease (k : Nat) (s : State) :
    (s.raiseForeign k).lease = s.lease := rfl
@[simp] theorem State.raiseForeign_outbound (k : Nat) (s : State) :
    (s.raiseForeign k).outbound = s.outbound := rfl
@[simp] theorem State.raiseForeign_slots (k : Nat) (s : State) :
    (s.raiseForeign k).slots = s.slots := rfl
@[simp] theorem State.raiseForeign_attention (k : Nat) (s : State) :
    (s.raiseForeign k).attention = { s.attention with foreign := .raised (octet k) } := rfl
@[simp] theorem State.raiseForeign_port (k : Nat) (s : State) :
    (s.raiseForeign k).port = s.port := rfl
@[simp] theorem State.raiseForeign_line (k : Nat) (s : State) :
    (s.raiseForeign k).line = s.line := rfl
@[simp] theorem State.raiseForeign_judgement (k : Nat) (s : State) :
    (s.raiseForeign k).judgement = s.judgement := rfl
@[simp] theorem State.raiseForeign_resetnLow (k : Nat) (s : State) :
    (s.raiseForeign k).resetnLow = s.resetnLow := rfl
@[simp] theorem State.raiseForeign_pending (k : Nat) (s : State) :
    (s.raiseForeign k).pending = s.pending := rfl

/-! R104: an entry requested. -/

@[simp] theorem State.request_station (k : EntryKind) (s : State) :
    (s.request k).station = s.station := rfl
@[simp] theorem State.request_config (k : EntryKind) (s : State) :
    (s.request k).config = s.config := rfl
@[simp] theorem State.request_table (k : EntryKind) (s : State) :
    (s.request k).table = s.table := rfl
@[simp] theorem State.request_census (k : EntryKind) (s : State) :
    (s.request k).census = s.census := rfl
@[simp] theorem State.request_roster (k : EntryKind) (s : State) :
    (s.request k).roster = s.roster := rfl
@[simp] theorem State.request_lease (k : EntryKind) (s : State) :
    (s.request k).lease = s.lease := rfl
@[simp] theorem State.request_outbound (k : EntryKind) (s : State) :
    (s.request k).outbound = s.outbound.request k := rfl
@[simp] theorem State.request_slots (k : EntryKind) (s : State) :
    (s.request k).slots = s.slots := rfl
@[simp] theorem State.request_attention (k : EntryKind) (s : State) :
    (s.request k).attention = s.attention := rfl
@[simp] theorem State.request_port (k : EntryKind) (s : State) :
    (s.request k).port = s.port := rfl
@[simp] theorem State.request_line (k : EntryKind) (s : State) :
    (s.request k).line = s.line := rfl
@[simp] theorem State.request_judgement (k : EntryKind) (s : State) :
    (s.request k).judgement = s.judgement := rfl
@[simp] theorem State.request_resetnLow (k : EntryKind) (s : State) :
    (s.request k).resetnLow = s.resetnLow := rfl
@[simp] theorem State.request_pending (k : EntryKind) (s : State) :
    (s.request k).pending = s.pending := rfl

/-! R118: entries discarded. -/

@[simp] theorem State.discard_station (gone : EntryKind → Bool) (s : State) :
    (s.discard gone).station = s.station := rfl
@[simp] theorem State.discard_config (gone : EntryKind → Bool) (s : State) :
    (s.discard gone).config = s.config := rfl
@[simp] theorem State.discard_table (gone : EntryKind → Bool) (s : State) :
    (s.discard gone).table = s.table := rfl
@[simp] theorem State.discard_census (gone : EntryKind → Bool) (s : State) :
    (s.discard gone).census = s.census := rfl
@[simp] theorem State.discard_roster (gone : EntryKind → Bool) (s : State) :
    (s.discard gone).roster = s.roster := rfl
@[simp] theorem State.discard_lease (gone : EntryKind → Bool) (s : State) :
    (s.discard gone).lease = s.lease := rfl
@[simp] theorem State.discard_outbound (gone : EntryKind → Bool) (s : State) :
    (s.discard gone).outbound = s.outbound.discard gone := rfl
@[simp] theorem State.discard_slots (gone : EntryKind → Bool) (s : State) :
    (s.discard gone).slots = s.slots := rfl
@[simp] theorem State.discard_attention (gone : EntryKind → Bool) (s : State) :
    (s.discard gone).attention = s.attention := rfl
@[simp] theorem State.discard_port (gone : EntryKind → Bool) (s : State) :
    (s.discard gone).port = s.port := rfl
@[simp] theorem State.discard_line (gone : EntryKind → Bool) (s : State) :
    (s.discard gone).line = s.line := rfl
@[simp] theorem State.discard_judgement (gone : EntryKind → Bool) (s : State) :
    (s.discard gone).judgement = s.judgement := rfl
@[simp] theorem State.discard_resetnLow (gone : EntryKind → Bool) (s : State) :
    (s.discard gone).resetnLow = s.resetnLow := rfl
@[simp] theorem State.discard_pending (gone : EntryKind → Bool) (s : State) :
    (s.discard gone).pending = s.pending := rfl

/-! R119: the CLAIM entries kept. -/

@[simp] theorem State.keepClaims_station (s : State) :
    (s.keepClaims).station = s.station := rfl
@[simp] theorem State.keepClaims_config (s : State) :
    (s.keepClaims).config = s.config := rfl
@[simp] theorem State.keepClaims_table (s : State) :
    (s.keepClaims).table = s.table := rfl
@[simp] theorem State.keepClaims_census (s : State) :
    (s.keepClaims).census = s.census := rfl
@[simp] theorem State.keepClaims_roster (s : State) :
    (s.keepClaims).roster = s.roster := rfl
@[simp] theorem State.keepClaims_lease (s : State) :
    (s.keepClaims).lease = s.lease := rfl
@[simp] theorem State.keepClaims_slots (s : State) :
    (s.keepClaims).slots = s.slots := rfl
@[simp] theorem State.keepClaims_attention (s : State) :
    (s.keepClaims).attention = s.attention := rfl
@[simp] theorem State.keepClaims_port (s : State) :
    (s.keepClaims).port = s.port := rfl
@[simp] theorem State.keepClaims_line (s : State) :
    (s.keepClaims).line = s.line := rfl
@[simp] theorem State.keepClaims_judgement (s : State) :
    (s.keepClaims).judgement = s.judgement := rfl
@[simp] theorem State.keepClaims_resetnLow (s : State) :
    (s.keepClaims).resetnLow = s.resetnLow := rfl
@[simp] theorem State.keepClaims_pending (s : State) :
    (s.keepClaims).pending = s.pending := rfl

/-! R27, R50: the cell cleared. -/

@[simp] theorem State.clearCell_station (s : State) :
    (s.clearCell).station = s.station := rfl
@[simp] theorem State.clearCell_config (s : State) :
    (s.clearCell).config = s.config := rfl
@[simp] theorem State.clearCell_table (s : State) :
    (s.clearCell).table = .cleared := rfl
@[simp] theorem State.clearCell_census (s : State) :
    (s.clearCell).census = .cleared := rfl
@[simp] theorem State.clearCell_roster (s : State) :
    (s.clearCell).roster = .cleared := rfl
@[simp] theorem State.clearCell_lease (s : State) :
    (s.clearCell).lease = s.lease := rfl
@[simp] theorem State.clearCell_outbound (s : State) :
    (s.clearCell).outbound = s.outbound := rfl
@[simp] theorem State.clearCell_slots (s : State) :
    (s.clearCell).slots = s.slots := rfl
@[simp] theorem State.clearCell_attention (s : State) :
    (s.clearCell).attention = s.attention := rfl
@[simp] theorem State.clearCell_port (s : State) :
    (s.clearCell).port = s.port := rfl
@[simp] theorem State.clearCell_line (s : State) :
    (s.clearCell).line = s.line := rfl
@[simp] theorem State.clearCell_judgement (s : State) :
    (s.clearCell).judgement = s.judgement := rfl
@[simp] theorem State.clearCell_resetnLow (s : State) :
    (s.clearCell).resetnLow = s.resetnLow := rfl
@[simp] theorem State.clearCell_pending (s : State) :
    (s.clearCell).pending = s.pending := rfl

/-! R77: the timers stopped. -/

@[simp] theorem State.stopTimers_station (s : State) :
    (s.stopTimers).station = s.station := rfl
@[simp] theorem State.stopTimers_config (s : State) :
    (s.stopTimers).config = s.config := rfl
@[simp] theorem State.stopTimers_table (s : State) :
    (s.stopTimers).table = s.table := rfl
@[simp] theorem State.stopTimers_census (s : State) :
    (s.stopTimers).census = s.census := rfl
@[simp] theorem State.stopTimers_roster (s : State) :
    (s.stopTimers).roster = s.roster := rfl
@[simp] theorem State.stopTimers_lease (s : State) :
    (s.stopTimers).lease = { s.lease with leases := [], pulse := .inactive, selfGuard := .inactive, window := .inactive } := rfl
@[simp] theorem State.stopTimers_outbound (s : State) :
    (s.stopTimers).outbound = s.outbound := rfl
@[simp] theorem State.stopTimers_slots (s : State) :
    (s.stopTimers).slots = s.slots := rfl
@[simp] theorem State.stopTimers_attention (s : State) :
    (s.stopTimers).attention = s.attention := rfl
@[simp] theorem State.stopTimers_port (s : State) :
    (s.stopTimers).port = s.port := rfl
@[simp] theorem State.stopTimers_line (s : State) :
    (s.stopTimers).line = s.line := rfl
@[simp] theorem State.stopTimers_judgement (s : State) :
    (s.stopTimers).judgement = s.judgement := rfl
@[simp] theorem State.stopTimers_resetnLow (s : State) :
    (s.stopTimers).resetnLow = s.resetnLow := rfl
@[simp] theorem State.stopTimers_pending (s : State) :
    (s.stopTimers).pending = s.pending := rfl

/-! R145: the slots settled. -/

@[simp] theorem State.settleSlots_station (r : Reason) (s : State) :
    (s.settleSlots r).station = s.station := rfl
@[simp] theorem State.settleSlots_config (r : Reason) (s : State) :
    (s.settleSlots r).config = s.config := rfl
@[simp] theorem State.settleSlots_table (r : Reason) (s : State) :
    (s.settleSlots r).table = s.table := rfl
@[simp] theorem State.settleSlots_census (r : Reason) (s : State) :
    (s.settleSlots r).census = s.census := rfl
@[simp] theorem State.settleSlots_roster (r : Reason) (s : State) :
    (s.settleSlots r).roster = s.roster := rfl
@[simp] theorem State.settleSlots_lease (r : Reason) (s : State) :
    (s.settleSlots r).lease = s.lease := rfl
@[simp] theorem State.settleSlots_outbound (r : Reason) (s : State) :
    (s.settleSlots r).outbound = s.outbound := rfl
@[simp] theorem State.settleSlots_slots (r : Reason) (s : State) :
    (s.settleSlots r).slots = s.slots.map (Slot.settle r) := rfl
@[simp] theorem State.settleSlots_attention (r : Reason) (s : State) :
    (s.settleSlots r).attention = s.attention := rfl
@[simp] theorem State.settleSlots_port (r : Reason) (s : State) :
    (s.settleSlots r).port = s.port := rfl
@[simp] theorem State.settleSlots_line (r : Reason) (s : State) :
    (s.settleSlots r).line = s.line := rfl
@[simp] theorem State.settleSlots_judgement (r : Reason) (s : State) :
    (s.settleSlots r).judgement = s.judgement := rfl
@[simp] theorem State.settleSlots_resetnLow (r : Reason) (s : State) :
    (s.settleSlots r).resetnLow = s.resetnLow := rfl
@[simp] theorem State.settleSlots_pending (r : Reason) (s : State) :
    (s.settleSlots r).pending = s.pending := rfl

/-! R27, R50, R77, R119, R145: everything of the cell given up. -/

@[simp] theorem State.giveUp_station (r : Reason) (s : State) :
    (s.giveUp r).station = s.station := rfl
@[simp] theorem State.giveUp_config (r : Reason) (s : State) :
    (s.giveUp r).config = s.config := rfl
@[simp] theorem State.giveUp_table (r : Reason) (s : State) :
    (s.giveUp r).table = .cleared := rfl
@[simp] theorem State.giveUp_census (r : Reason) (s : State) :
    (s.giveUp r).census = .cleared := rfl
@[simp] theorem State.giveUp_roster (r : Reason) (s : State) :
    (s.giveUp r).roster = .cleared := rfl
@[simp] theorem State.giveUp_lease (r : Reason) (s : State) :
    (s.giveUp r).lease = s.stopTimers.lease := rfl
@[simp] theorem State.giveUp_outbound (r : Reason) (s : State) :
    (s.giveUp r).outbound = (s.settleSlots r).keepClaims.outbound := rfl
@[simp] theorem State.giveUp_slots (r : Reason) (s : State) :
    (s.giveUp r).slots = s.slots.map (Slot.settle r) := rfl
@[simp] theorem State.giveUp_attention (r : Reason) (s : State) :
    (s.giveUp r).attention = s.attention := rfl
@[simp] theorem State.giveUp_port (r : Reason) (s : State) :
    (s.giveUp r).port = s.port := rfl
@[simp] theorem State.giveUp_line (r : Reason) (s : State) :
    (s.giveUp r).line = s.line := rfl
@[simp] theorem State.giveUp_judgement (r : Reason) (s : State) :
    (s.giveUp r).judgement = s.judgement := rfl
@[simp] theorem State.giveUp_resetnLow (r : Reason) (s : State) :
    (s.giveUp r).resetnLow = s.resetnLow := rfl
@[simp] theorem State.giveUp_pending (r : Reason) (s : State) :
    (s.giveUp r).pending = s.pending := rfl

/-! R126: the station RECOVERING. -/

@[simp] theorem State.recover_station (s : State) :
    (s.recover).station = s.station := rfl
@[simp] theorem State.recover_config (s : State) :
    (s.recover).config = s.config := rfl
@[simp] theorem State.recover_table (s : State) :
    (s.recover).table = s.table := rfl
@[simp] theorem State.recover_census (s : State) :
    (s.recover).census = s.census := rfl
@[simp] theorem State.recover_roster (s : State) :
    (s.recover).roster = s.roster := rfl
@[simp] theorem State.recover_lease (s : State) :
    (s.recover).lease = s.lease := rfl
@[simp] theorem State.recover_outbound (s : State) :
    (s.recover).outbound = s.outbound := rfl
@[simp] theorem State.recover_slots (s : State) :
    (s.recover).slots = s.slots := rfl
@[simp] theorem State.recover_attention (s : State) :
    (s.recover).attention = s.attention := rfl
@[simp] theorem State.recover_port (s : State) :
    (s.recover).port = s.port := rfl
@[simp] theorem State.recover_line (s : State) :
    (s.recover).line = { s.line with tracking := .recovering, recoverRun := 0, ltx := .rest, rx := none } := rfl
@[simp] theorem State.recover_judgement (s : State) :
    (s.recover).judgement = none := rfl
@[simp] theorem State.recover_resetnLow (s : State) :
    (s.recover).resetnLow = s.resetnLow := rfl
@[simp] theorem State.recover_pending (s : State) :
    (s.recover).pending = s.pending := rfl

/-! R126: the REST bits counted. -/

@[simp] theorem State.countFrom_station (n : Nat) (s : State) :
    (s.countFrom n).station = s.station := rfl
@[simp] theorem State.countFrom_config (n : Nat) (s : State) :
    (s.countFrom n).config = s.config := rfl
@[simp] theorem State.countFrom_table (n : Nat) (s : State) :
    (s.countFrom n).table = s.table := rfl
@[simp] theorem State.countFrom_census (n : Nat) (s : State) :
    (s.countFrom n).census = s.census := rfl
@[simp] theorem State.countFrom_roster (n : Nat) (s : State) :
    (s.countFrom n).roster = s.roster := rfl
@[simp] theorem State.countFrom_lease (n : Nat) (s : State) :
    (s.countFrom n).lease = s.lease := rfl
@[simp] theorem State.countFrom_outbound (n : Nat) (s : State) :
    (s.countFrom n).outbound = s.outbound := rfl
@[simp] theorem State.countFrom_slots (n : Nat) (s : State) :
    (s.countFrom n).slots = s.slots := rfl
@[simp] theorem State.countFrom_attention (n : Nat) (s : State) :
    (s.countFrom n).attention = s.attention := rfl
@[simp] theorem State.countFrom_port (n : Nat) (s : State) :
    (s.countFrom n).port = s.port := rfl
@[simp] theorem State.countFrom_line (n : Nat) (s : State) :
    (s.countFrom n).line = { s.line with recoverRun := n } := rfl
@[simp] theorem State.countFrom_judgement (n : Nat) (s : State) :
    (s.countFrom n).judgement = s.judgement := rfl
@[simp] theorem State.countFrom_resetnLow (n : Nat) (s : State) :
    (s.countFrom n).resetnLow = s.resetnLow := rfl
@[simp] theorem State.countFrom_pending (n : Nat) (s : State) :
    (s.countFrom n).pending = s.pending := rfl

/-! R47: the frame closed. -/

@[simp] theorem State.closeFrame_station (s : State) :
    (s.closeFrame).station = s.station := rfl
@[simp] theorem State.closeFrame_config (s : State) :
    (s.closeFrame).config = s.config := rfl
@[simp] theorem State.closeFrame_table (s : State) :
    (s.closeFrame).table = s.table := rfl
@[simp] theorem State.closeFrame_census (s : State) :
    (s.closeFrame).census = s.census := rfl
@[simp] theorem State.closeFrame_roster (s : State) :
    (s.closeFrame).roster = s.roster := rfl
@[simp] theorem State.closeFrame_lease (s : State) :
    (s.closeFrame).lease = s.lease := rfl
@[simp] theorem State.closeFrame_outbound (s : State) :
    (s.closeFrame).outbound = s.outbound := rfl
@[simp] theorem State.closeFrame_slots (s : State) :
    (s.closeFrame).slots = s.slots := rfl
@[simp] theorem State.closeFrame_attention (s : State) :
    (s.closeFrame).attention = s.attention := rfl
@[simp] theorem State.closeFrame_port (s : State) :
    (s.closeFrame).port = s.port := rfl
@[simp] theorem State.closeFrame_line (s : State) :
    (s.closeFrame).line = { s.line with tracking := .ending, rx := none } := rfl
@[simp] theorem State.closeFrame_judgement (s : State) :
    (s.closeFrame).judgement = none := rfl
@[simp] theorem State.closeFrame_resetnLow (s : State) :
    (s.closeFrame).resetnLow = s.resetnLow := rfl
@[simp] theorem State.closeFrame_pending (s : State) :
    (s.closeFrame).pending = s.pending := rfl

/-! R34: the frame opened. -/

@[simp] theorem State.openFrame_station (s : State) :
    (s.openFrame).station = s.station := rfl
@[simp] theorem State.openFrame_config (s : State) :
    (s.openFrame).config = s.config := rfl
@[simp] theorem State.openFrame_table (s : State) :
    (s.openFrame).table = s.table := rfl
@[simp] theorem State.openFrame_census (s : State) :
    (s.openFrame).census = s.census := rfl
@[simp] theorem State.openFrame_roster (s : State) :
    (s.openFrame).roster = s.roster := rfl
@[simp] theorem State.openFrame_lease (s : State) :
    (s.openFrame).lease = s.lease := rfl
@[simp] theorem State.openFrame_outbound (s : State) :
    (s.openFrame).outbound = s.outbound := rfl
@[simp] theorem State.openFrame_slots (s : State) :
    (s.openFrame).slots = s.slots := rfl
@[simp] theorem State.openFrame_attention (s : State) :
    (s.openFrame).attention = s.attention := rfl
@[simp] theorem State.openFrame_port (s : State) :
    (s.openFrame).port = s.port := rfl
@[simp] theorem State.openFrame_line (s : State) :
    (s.openFrame).line = { s.line with tracking := .frame, rx := some Rx.opened } := rfl
@[simp] theorem State.openFrame_judgement (s : State) :
    (s.openFrame).judgement = if s.station.opensJudgement then some Judgement.opened else none := rfl
@[simp] theorem State.openFrame_resetnLow (s : State) :
    (s.openFrame).resetnLow = s.resetnLow := rfl
@[simp] theorem State.openFrame_pending (s : State) :
    (s.openFrame).pending = s.pending := rfl

/-! R128: LTX released. -/

@[simp] theorem State.stopDriving_station (s : State) :
    (s.stopDriving).station = s.station := rfl
@[simp] theorem State.stopDriving_config (s : State) :
    (s.stopDriving).config = s.config := rfl
@[simp] theorem State.stopDriving_table (s : State) :
    (s.stopDriving).table = s.table := rfl
@[simp] theorem State.stopDriving_census (s : State) :
    (s.stopDriving).census = s.census := rfl
@[simp] theorem State.stopDriving_roster (s : State) :
    (s.stopDriving).roster = s.roster := rfl
@[simp] theorem State.stopDriving_lease (s : State) :
    (s.stopDriving).lease = s.lease := rfl
@[simp] theorem State.stopDriving_outbound (s : State) :
    (s.stopDriving).outbound = s.outbound := rfl
@[simp] theorem State.stopDriving_slots (s : State) :
    (s.stopDriving).slots = s.slots := rfl
@[simp] theorem State.stopDriving_attention (s : State) :
    (s.stopDriving).attention = s.attention := rfl
@[simp] theorem State.stopDriving_port (s : State) :
    (s.stopDriving).port = s.port := rfl
@[simp] theorem State.stopDriving_line (s : State) :
    (s.stopDriving).line = { s.line with ltx := .rest } := rfl
@[simp] theorem State.stopDriving_judgement (s : State) :
    (s.stopDriving).judgement = s.judgement := rfl
@[simp] theorem State.stopDriving_resetnLow (s : State) :
    (s.stopDriving).resetnLow = s.resetnLow := rfl
@[simp] theorem State.stopDriving_pending (s : State) :
    (s.stopDriving).pending = s.pending := rfl

/-! R122: a mark edge moves the phase. -/

@[simp] theorem State.resync_station (s : State) :
    (s.resync).station = s.station := rfl
@[simp] theorem State.resync_config (s : State) :
    (s.resync).config = s.config := rfl
@[simp] theorem State.resync_table (s : State) :
    (s.resync).table = s.table := rfl
@[simp] theorem State.resync_census (s : State) :
    (s.resync).census = s.census := rfl
@[simp] theorem State.resync_roster (s : State) :
    (s.resync).roster = s.roster := rfl
@[simp] theorem State.resync_lease (s : State) :
    (s.resync).lease = s.lease := rfl
@[simp] theorem State.resync_outbound (s : State) :
    (s.resync).outbound = s.outbound := rfl
@[simp] theorem State.resync_slots (s : State) :
    (s.resync).slots = s.slots := rfl
@[simp] theorem State.resync_attention (s : State) :
    (s.resync).attention = s.attention := rfl
@[simp] theorem State.resync_port (s : State) :
    (s.resync).port = s.port := rfl
@[simp] theorem State.resync_line (s : State) :
    (s.resync).line = { s.line with accepted := .drive, filterRun := 0, phase := Config.edgeSample } := rfl
@[simp] theorem State.resync_judgement (s : State) :
    (s.resync).judgement = s.judgement := rfl
@[simp] theorem State.resync_resetnLow (s : State) :
    (s.resync).resetnLow = s.resetnLow := rfl
@[simp] theorem State.resync_pending (s : State) :
    (s.resync).pending = s.pending := rfl

/-! R37: the first cell fault. -/

@[simp] theorem State.markError_station (s : State) :
    (s.markError).station = s.station := rfl
@[simp] theorem State.markError_config (s : State) :
    (s.markError).config = s.config := rfl
@[simp] theorem State.markError_table (s : State) :
    (s.markError).table = s.table := rfl
@[simp] theorem State.markError_census (s : State) :
    (s.markError).census = s.census := rfl
@[simp] theorem State.markError_roster (s : State) :
    (s.markError).roster = s.roster := rfl
@[simp] theorem State.markError_lease (s : State) :
    (s.markError).lease = s.lease := rfl
@[simp] theorem State.markError_outbound (s : State) :
    (s.markError).outbound = s.outbound := rfl
@[simp] theorem State.markError_slots (s : State) :
    (s.markError).slots = s.slots := rfl
@[simp] theorem State.markError_attention (s : State) :
    (s.markError).attention = s.attention := rfl
@[simp] theorem State.markError_port (s : State) :
    (s.markError).port = s.port := rfl
@[simp] theorem State.markError_line (s : State) :
    (s.markError).line = s.line := rfl
@[simp] theorem State.markError_judgement (s : State) :
    (s.markError).judgement = s.judgement.map fun j => { j with reception := some .error } := rfl
@[simp] theorem State.markError_resetnLow (s : State) :
    (s.markError).resetnLow = s.resetnLow := rfl
@[simp] theorem State.markError_pending (s : State) :
    (s.markError).pending = s.pending := rfl

/-! R38: the own attempt abandoned. -/

@[simp] theorem State.markAbandoned_station (s : State) :
    (s.markAbandoned).station = s.station := rfl
@[simp] theorem State.markAbandoned_config (s : State) :
    (s.markAbandoned).config = s.config := rfl
@[simp] theorem State.markAbandoned_table (s : State) :
    (s.markAbandoned).table = s.table := rfl
@[simp] theorem State.markAbandoned_census (s : State) :
    (s.markAbandoned).census = s.census := rfl
@[simp] theorem State.markAbandoned_roster (s : State) :
    (s.markAbandoned).roster = s.roster := rfl
@[simp] theorem State.markAbandoned_lease (s : State) :
    (s.markAbandoned).lease = s.lease := rfl
@[simp] theorem State.markAbandoned_outbound (s : State) :
    (s.markAbandoned).outbound = s.outbound := rfl
@[simp] theorem State.markAbandoned_slots (s : State) :
    (s.markAbandoned).slots = s.slots := rfl
@[simp] theorem State.markAbandoned_attention (s : State) :
    (s.markAbandoned).attention = s.attention := rfl
@[simp] theorem State.markAbandoned_port (s : State) :
    (s.markAbandoned).port = s.port := rfl
@[simp] theorem State.markAbandoned_line (s : State) :
    (s.markAbandoned).line = s.line := rfl
@[simp] theorem State.markAbandoned_judgement (s : State) :
    (s.markAbandoned).judgement = s.judgement.map fun j => { j with abandoned := true } := rfl
@[simp] theorem State.markAbandoned_resetnLow (s : State) :
    (s.markAbandoned).resetnLow = s.resetnLow := rfl
@[simp] theorem State.markAbandoned_pending (s : State) :
    (s.markAbandoned).pending = s.pending := rfl

/-! R51: the miss counts. -/

@[simp] theorem State.countMisses_station (p : StationSet) (s : State) :
    (s.countMisses p).station = s.station := rfl
@[simp] theorem State.countMisses_config (p : StationSet) (s : State) :
    (s.countMisses p).config = s.config := rfl
@[simp] theorem State.countMisses_table (p : StationSet) (s : State) :
    (s.countMisses p).table = s.table := rfl
@[simp] theorem State.countMisses_census (p : StationSet) (s : State) :
    (s.countMisses p).census = s.census := rfl
@[simp] theorem State.countMisses_roster (p : StationSet) (s : State) :
    (s.countMisses p).roster = s.roster.countMisses p := rfl
@[simp] theorem State.countMisses_lease (p : StationSet) (s : State) :
    (s.countMisses p).lease = s.lease := rfl
@[simp] theorem State.countMisses_outbound (p : StationSet) (s : State) :
    (s.countMisses p).outbound = s.outbound := rfl
@[simp] theorem State.countMisses_slots (p : StationSet) (s : State) :
    (s.countMisses p).slots = s.slots := rfl
@[simp] theorem State.countMisses_attention (p : StationSet) (s : State) :
    (s.countMisses p).attention = s.attention := rfl
@[simp] theorem State.countMisses_port (p : StationSet) (s : State) :
    (s.countMisses p).port = s.port := rfl
@[simp] theorem State.countMisses_line (p : StationSet) (s : State) :
    (s.countMisses p).line = s.line := rfl
@[simp] theorem State.countMisses_judgement (p : StationSet) (s : State) :
    (s.countMisses p).judgement = s.judgement := rfl
@[simp] theorem State.countMisses_resetnLow (p : StationSet) (s : State) :
    (s.countMisses p).resetnLow = s.resetnLow := rfl
@[simp] theorem State.countMisses_pending (p : StationSet) (s : State) :
    (s.countMisses p).pending = s.pending := rfl

/-! R117: quiet time counted. -/

@[simp] theorem State.quietComesTo_station (n : Nat) (s : State) :
    (s.quietComesTo n).station = s.station := rfl
@[simp] theorem State.quietComesTo_config (n : Nat) (s : State) :
    (s.quietComesTo n).config = s.config := rfl
@[simp] theorem State.quietComesTo_table (n : Nat) (s : State) :
    (s.quietComesTo n).table = s.table := rfl
@[simp] theorem State.quietComesTo_census (n : Nat) (s : State) :
    (s.quietComesTo n).census = s.census := rfl
@[simp] theorem State.quietComesTo_roster (n : Nat) (s : State) :
    (s.quietComesTo n).roster = s.roster := rfl
@[simp] theorem State.quietComesTo_lease (n : Nat) (s : State) :
    (s.quietComesTo n).lease = s.lease := rfl
@[simp] theorem State.quietComesTo_slots (n : Nat) (s : State) :
    (s.quietComesTo n).slots = s.slots := rfl
@[simp] theorem State.quietComesTo_attention (n : Nat) (s : State) :
    (s.quietComesTo n).attention = s.attention := rfl
@[simp] theorem State.quietComesTo_port (n : Nat) (s : State) :
    (s.quietComesTo n).port = s.port := rfl
@[simp] theorem State.quietComesTo_judgement (n : Nat) (s : State) :
    (s.quietComesTo n).judgement = s.judgement := rfl
@[simp] theorem State.quietComesTo_resetnLow (n : Nat) (s : State) :
    (s.quietComesTo n).resetnLow = s.resetnLow := rfl
@[simp] theorem State.quietComesTo_pending (n : Nat) (s : State) :
    (s.quietComesTo n).pending = s.pending := rfl

/-! R173, R174: a self-restart. -/

@[simp] theorem State.selfRestart_station (c : OutCause) (s : State) :
    (s.selfRestart c).station = .listen := rfl
@[simp] theorem State.selfRestart_config (c : OutCause) (s : State) :
    (s.selfRestart c).config = s.config := rfl
@[simp] theorem State.selfRestart_table (c : OutCause) (s : State) :
    (s.selfRestart c).table = .cleared := rfl
@[simp] theorem State.selfRestart_census (c : OutCause) (s : State) :
    (s.selfRestart c).census = .cleared := rfl
@[simp] theorem State.selfRestart_roster (c : OutCause) (s : State) :
    (s.selfRestart c).roster = .cleared := rfl
@[simp] theorem State.selfRestart_lease (c : OutCause) (s : State) :
    (s.selfRestart c).lease = s.stopTimers.lease := rfl
@[simp] theorem State.selfRestart_outbound (c : OutCause) (s : State) :
    (s.selfRestart c).outbound = (s.giveUp .out).outbound := rfl
@[simp] theorem State.selfRestart_slots (c : OutCause) (s : State) :
    (s.selfRestart c).slots = s.slots.map (Slot.settle .out) := rfl
@[simp] theorem State.selfRestart_attention (c : OutCause) (s : State) :
    (s.selfRestart c).attention = { s.attention with out := .raised c.code } := rfl
@[simp] theorem State.selfRestart_port (c : OutCause) (s : State) :
    (s.selfRestart c).port = s.port := rfl
@[simp] theorem State.selfRestart_line (c : OutCause) (s : State) :
    (s.selfRestart c).line = s.recover.line := rfl
@[simp] theorem State.selfRestart_judgement (c : OutCause) (s : State) :
    (s.selfRestart c).judgement = none := rfl
@[simp] theorem State.selfRestart_resetnLow (c : OutCause) (s : State) :
    (s.selfRestart c).resetnLow = s.resetnLow := rfl
@[simp] theorem State.selfRestart_pending (c : OutCause) (s : State) :
    (s.selfRestart c).pending = s.pending := rfl

/-! R177: entry to HALTED. -/

@[simp] theorem State.halt_station (c : HaltCause) (s : State) :
    (s.halt c).station = .halted := rfl
@[simp] theorem State.halt_config (c : HaltCause) (s : State) :
    (s.halt c).config = s.config := rfl
@[simp] theorem State.halt_table (c : HaltCause) (s : State) :
    (s.halt c).table = s.table := rfl
@[simp] theorem State.halt_census (c : HaltCause) (s : State) :
    (s.halt c).census = { s.census with staging := [] } := rfl
@[simp] theorem State.halt_roster (c : HaltCause) (s : State) :
    (s.halt c).roster = { s.roster with clash := s.roster.clash || c == HaltCause.clash } := rfl
@[simp] theorem State.halt_lease (c : HaltCause) (s : State) :
    (s.halt c).lease = { s.lease with leases := [], pulse := .inactive, window := .inactive } := rfl
@[simp] theorem State.halt_outbound (c : HaltCause) (s : State) :
    (s.halt c).outbound = s.outbound.discard EntryKind.isJoin := rfl
@[simp] theorem State.halt_slots (c : HaltCause) (s : State) :
    (s.halt c).slots = s.slots.map fun b => { b with dropWanted := false } := rfl
@[simp] theorem State.halt_attention (c : HaltCause) (s : State) :
    (s.halt c).attention = { s.attention with halt := .raised c.code } := rfl
@[simp] theorem State.halt_port (c : HaltCause) (s : State) :
    (s.halt c).port = s.port := rfl
@[simp] theorem State.halt_line (c : HaltCause) (s : State) :
    (s.halt c).line = { s.line with ltx := .rest } := rfl
@[simp] theorem State.halt_judgement (c : HaltCause) (s : State) :
    (s.halt c).judgement = s.judgement := rfl
@[simp] theorem State.halt_resetnLow (c : HaltCause) (s : State) :
    (s.halt c).resetnLow = s.resetnLow := rfl
@[simp] theorem State.halt_pending (c : HaltCause) (s : State) :
    (s.halt c).pending = s.pending := rfl

/-! R134, R135: a slot that takes a state and a reason. -/

@[simp] theorem Slot.become_state (x : SlotState) (r : Option Reason) (b : Slot) : (b.become x r).state = x := rfl
@[simp] theorem Slot.become_reason (x : SlotState) (r : Option Reason) (b : Slot) : (b.become x r).reason = r := rfl
@[simp] theorem Slot.become_dropWanted (x : SlotState) (r : Option Reason) (b : Slot) :
    (b.become x r).dropWanted = false := rfl
@[simp] theorem Slot.become_mode (x : SlotState) (r : Option Reason) (b : Slot) :
    (b.become x r).mode = if x = .free then none else b.mode := rfl
@[simp] theorem Slot.become_zones (x : SlotState) (r : Option Reason) (b : Slot) :
    (b.become x r).zones = if x = .free then [] else b.zones := rfl

/-! R8: the sequence number, and the table's other fields. -/

@[simp] theorem Table.stepSequence_requests (t : Table) : t.stepSequence.requests = t.requests := rfl
@[simp] theorem Table.stepSequence_zones (t : Table) : t.stepSequence.zones = t.zones := rfl
@[simp] theorem Table.stepSequence_sequence (t : Table) : t.stepSequence.sequence = t.sequence + 1 := rfl
@[simp] theorem Table.remove_requests (t : Table) (gone : Nat → Nat → Bool) :
    (t.remove gone).requests = t.requests.filter (fun r => !gone r.owner r.tag) := rfl
@[simp] theorem Table.remove_sequence (t : Table) (gone : Nat → Nat → Bool) :
    (t.remove gone).sequence = t.sequence := rfl
@[simp] theorem Table.append_requests (t : Table) (r : Record) : (t.append r).requests = t.requests ++ [r] := rfl
@[simp] theorem Table.append_sequence (t : Table) (r : Record) : (t.append r).sequence = t.sequence := rfl
@[simp] theorem Table.grant_sequence (t : Table) (r : Record) : (t.grant r).sequence = t.sequence := rfl

end Sys2Proof.Machine
end

