-- ==== Sys2Proof/Laws/Ops.lean ====
section
/-! SUPPORT. Laws/Ops.lean: for each operation the commands share, one lemma that says everything it can do. -/

namespace Sys2Proof.Machine

/-! ### The host port -/

/-- R154: what the taking of a command comes to. -/
theorem State.hostTake_cases (act : State → State) (s : State) :
    (s.resetnLow = true ∧ s.hostTake act = s) ∨ (s.resetnLow = false ∧ s.hostTake act = act s) := by
  cases h : s.resetnLow <;> simp [State.hostTake, h]

/-- R153: what every command comes to: a next state, which `perform` gives. -/
theorem exec_eq_perform (i : Instr) (s : State) : exec i s = .next (s.perform i) := by
  cases i <;> rfl

/-! ### Slots -/

/-- R135: a slot read after one slot was changed. -/
theorem State.slotAt_updateSlot (s : State) (k j : Nat) (f : Slot → Slot) :
    (s.updateSlot k f).slotAt j = if j = k ∧ k < s.slots.length then f (s.slotAt j) else s.slotAt j := by
  by_cases e : j = k
  · subst e
    by_cases h : j < s.slots.length <;> simp [State.slotAt, List.getD_eq_getElem?_getD, h]
  · simp [State.slotAt, List.getD_eq_getElem?_getD, e, Ne.symm e]

/-- R139: the grant of a record changes nothing but the slots. -/
theorem State.slotGranted_frame (s : State) (r : RecordRef) :
    s.slotGranted r = { s with slots := (s.slotGranted r).slots } := by
  unfold State.slotGranted; split <;> rfl

/-- R139: the grants of a pass change nothing but the slots. -/
theorem State.slotsGranted_frame (l : List RecordRef) (s : State) :
    l.foldl State.slotGranted s = { s with slots := (l.foldl State.slotGranted s).slots } := by
  induction l generalizing s with
  | nil => rfl
  | cons r l ih =>
    rw [List.foldl_cons, ih, State.slotGranted_frame s r]

/-- R14, R15: the removal of records changes the table, by the removal and one grant pass, and the slots. -/
theorem State.removeRecords_frame (gone : Nat → Nat → Bool) (s : State) :
    s.removeRecords gone =
      { s with table := (s.table.remove gone).grantPass.1, slots := (s.removeRecords gone).slots } := by
  unfold State.removeRecords; rw [State.slotsGranted_frame]

/-! ### The census -/

/-- R82: a new designation changes the census state alone, in the pass-over set and the designated sender. -/
theorem State.redesignate_frame (s : State) :
    s.redesignate = { s with census := { s.census with
      passOver := s.redesignate.census.passOver, designated := s.redesignate.census.designated } } := by
  unfold State.redesignate; split <;> rfl

/-- R87: keeping the CENSUS entry changes nothing but the outbound set. -/
theorem State.keepCensusEntry_frame (s : State) :
    s.keepCensusEntry = { s with outbound := s.keepCensusEntry.outbound } := by
  unfold State.keepCensusEntry; split <;> rfl

/-- R76, R87, R94: a change of census progress changes the outbound set, and at a SYNCING station the census window. -/
theorem State.progressChanged_frame (s : State) :
    s.progressChanged = { s with
      outbound := s.progressChanged.outbound
      lease := { s.lease with
        window := if s.station = .syncing then .running s.durations.window else s.lease.window } } := by
  unfold State.progressChanged; rw [State.keepCensusEntry_frame]; split <;> rfl

/-- R76, R93: an eviction changes of the lease unit only the census window, which it renews at a SYNCING station under the
freeze, whether the run starts over or the census ends. -/
theorem State.evict_lease (gone : StationSet) (s : State) :
    (s.evict gone).lease = { s.lease with
      window := if s.census.freeze = true ∧ s.station = .syncing then .running s.durations.window
        else s.lease.window } := by
  unfold State.evict
  rw [State.removeRecords_frame]
  by_cases f : s.census.freeze = true
  · simp only [f, if_true, true_and]
    split
    · rw [State.resetRun, State.progressChanged_frame, State.redesignate_frame]; rfl
    · rw [State.progressChanged_frame]; rfl
  · simp only [f, if_false, false_and, Bool.false_eq_true]; rw [State.redesignate_frame]

/-! ### The outbound set -/

/-- R104: a request finds an entry that answers it, or adds one at the end of the entry order. -/
theorem Outbound.request_cases (o : Outbound) (k : EntryKind) :
    (o.holds k = true ∧ o.request k = o) ∨
      (o.holds k = false ∧ o.request k = { o with entries := o.entries ++ [Entry.fresh k] }) := by
  cases h : o.holds k <;> simp [Outbound.request, h]

/-- R118: what a discard leaves in the entry order. -/
@[simp] theorem Outbound.discard_entries (o : Outbound) (gone : EntryKind → Bool) :
    (o.discard gone).entries = o.entries.filter (fun e => !gone e.kind) := rfl

/-- R118: a discard leaves the spent flag. -/
@[simp] theorem Outbound.discard_spent (o : Outbound) (gone : EntryKind → Bool) :
    (o.discard gone).spent = o.spent := rfl

/-- R119: after a clearing the entries are new CLAIM entries of QUEUED slots. -/
theorem State.keepClaims_fresh (s : State) :
    ∀ e ∈ s.keepClaims.outbound.entries, ∃ tag, e = Entry.fresh (.claim tag) ∧ (s.slotAt tag).state = .queued := by
  intro e he
  simp only [State.keepClaims, List.mem_map, List.mem_filter] at he
  obtain ⟨x, ⟨_, hq⟩, rfl⟩ := he
  cases hk : x.kind <;> simp only [hk, EntryKind.claimTag] at hq <;> try contradiction
  exact ⟨_, rfl, by simpa using hq⟩

/-- R103: the entry on the line is an entry, and is marked so. -/
theorem Outbound.onLine_some (o : Outbound) (e : Entry) (h : o.onLine = some e) : e ∈ o.entries ∧ e.onLine = true :=
  ⟨List.mem_of_find?_eq_some h, by simpa using List.find?_some h⟩

/-- R110, R112, R113, R141: what the end of an attempt without TAKEN comes to. -/
theorem State.endAttempt_cases (counted : Bool) (s : State) :
    (s.outbound.onLine = none ∧ s.endAttempt counted = s) ∨
    (∃ e, s.outbound.onLine = some e ∧ e.withdrawn = true ∧
      s.endAttempt counted =
        ({ s with outbound := { s.outbound with
            entries := s.outbound.entries.filter fun x => !x.onLine, sending := [] } }).settleDropWanted e.kind) ∨
    (∃ e, s.outbound.onLine = some e ∧ e.withdrawn = false ∧
      s.endAttempt counted = { s with outbound := { s.outbound with
        entries := s.outbound.entries.map fun x =>
          if x.onLine then { x with onLine := false, retries := x.retries + counted.toNat } else x
        sending := [] } }) := by
  cases h : s.outbound.onLine with
  | none => exact .inl ⟨rfl, by simp [State.endAttempt, h]⟩
  | some e => cases hw : e.withdrawn <;> simp [State.endAttempt, h, hw]

/-- R145: what the settlement at a clearing makes of a slot, by its state. -/
theorem Slot.settle_cases (r : Reason) (b : Slot) :
    ((b.state = .waiting ∨ b.state = .granted) ∧ b.settle r = b.become .lost (some r)) ∨
    (b.state = .releasing ∧ b.settle r = b.become .free none) ∨
    (b.state ≠ .waiting ∧ b.state ≠ .granted ∧ b.state ≠ .releasing ∧ b.settle r = { b with dropWanted := false }) := by
  cases h : b.state <;> simp [Slot.settle, h]

/-- R150: the settlement clears drop-wanted in every slot. -/
@[simp] theorem Slot.settle_dropWanted (r : Reason) (b : Slot) : (b.settle r).dropWanted = false := by
  obtain ⟨-, h⟩ | ⟨-, h⟩ | ⟨-, -, -, h⟩ := b.settle_cases r <;> rw [h] <;> rfl

/-- R87, R134: what a TAKEN own entry leaves behind: a CENSUS entry where one is due, or its slot drop-wanted no more. -/
theorem State.settleTaken_cases (gone : Option Entry) (s : State) :
    (∃ e i, gone = some e ∧ e.kind = .census i ∧ s.settleTaken gone = s.keepCensusEntry) ∨
    (∃ e tag, gone = some e ∧ e.kind = .claim tag ∧
      s.settleTaken gone = s.updateSlot tag fun b => { b with dropWanted := false }) ∨
    s.settleTaken gone = s := by
  cases gone with
  | none => exact .inr (.inr rfl)
  | some e => cases h : e.kind <;> simp [State.settleTaken, h]

/-- R128, R129: a bit in conflict is one of this station's own frame, sent as REST and read as DRIVE. -/
theorem State.conflict_iff (s : State) (x : Rx) (b : Level) :
    s.conflict x b = true ↔ s.outbound.onLine.isSome = true ∧ b = .drive ∧
      x.position < 10 * s.outbound.sending.length ∧ sentLevel s.outbound.sending x.position = .rest := by
  simp [State.conflict, and_assoc]

/-- R141: the settlement of a drop-wanted slot changes nothing but that slot. -/
theorem State.settleDropWanted_cases (k : EntryKind) (s : State) :
    s.settleDropWanted k = s ∨
      ∃ tag, k = .claim tag ∧ (s.slotAt tag).dropWanted = true ∧
        s.settleDropWanted k = s.updateSlot tag (Slot.become .free none) := by
  cases k
  case claim tag => cases h : (s.slotAt tag).dropWanted <;> simp [State.settleDropWanted, EntryKind.claimTag, h]
  all_goals exact .inl rfl

/-- R111: what the TAKEN outcome of an own frame does to the outbound set. -/
theorem State.takeEntry_cases (s : State) :
    (s.outbound.onLine = none ∧ s.takeEntry = s) ∨
    (∃ e, s.outbound.onLine = some e ∧ s.takeEntry = { s with outbound :=
      { entries := s.outbound.entries.filter fun x => !x.onLine
        spent := s.outbound.spent || decide (4 ≤ e.kind.frameClass)
        sending := [] } }) := by
  cases h : s.outbound.onLine <;> simp [State.takeEntry, h]

/-- R47, R128: at a frame end an attempt that the key read shows lost ends uncounted, and any other stays on the line. -/
theorem State.loseUnlessOwn_cases (c : FrameCells) (s : State) :
    (s.ownAttempt c = true ∧ s.loseUnlessOwn c = s) ∨
    (s.ownAttempt c = false ∧ s.loseUnlessOwn c = s.endAttempt false) := by
  cases h : s.ownAttempt c <;> simp [State.loseUnlessOwn, h]

/-- R47, R128: the own attempt of a frame, in the bits of its key. -/
theorem State.ownAttempt_eq_true (c : FrameCells) (s : State) :
    s.ownAttempt c = true ↔ ∃ e, s.outbound.onLine = some e ∧ losesKey (keyOctet e.kind.frameClass s.own) c.key = false := by
  unfold State.ownAttempt; split <;> simp_all

/-- R60, R61: what the clash test comes to: nothing, or the end of an attempt still on the line and the halt. -/
theorem State.clashFound_cases (c : FrameCells) (s : State) :
    (s.clashes c = false ∧ s.clashFound c = s) ∨
    (s.clashes c = true ∧ s.clashFound c = (s.endAttempt false).halt .clash) := by
  cases h : s.clashes c <;> simp [State.clashFound, h]

/-- R124, R125: what the close of the last frame phase comes to before a command that counts quiet time. -/
theorem State.afterLastPhase_cases (s : State) :
    (s.line.tracking ≠ .ending ∧ s.afterLastPhase = s) ∨
    (s.line.tracking = .ending ∧
      s.afterLastPhase = { s with line := { s.line with tracking := .quiet, quiet := 0, ltx := .rest } }) := by
  by_cases h : s.line.tracking = .ending <;> simp [State.afterLastPhase, State.closePhase, State.stopDriving, h]

/-- R107: only an entry of the list is chosen. -/
theorem chooseEntry_mem (l : List Entry) (e : Entry) (h : chooseEntry l = some e) : e ∈ l := by
  induction l generalizing e with
  | nil => simp [chooseEntry] at h
  | cons a l ih =>
    rw [chooseEntry] at h
    split at h
    · simp_all
    · rename_i b hb
      split at h <;> simp_all

/-- R107: an entry is chosen wherever there is one. -/
theorem chooseEntry_none (l : List Entry) : chooseEntry l = none ↔ l = [] := by
  cases l with
  | nil => simp [chooseEntry]
  | cons a l =>
    rw [chooseEntry]
    split
    · simp
    · split <;> simp

/-- R107, R108, R127: what the line unit's question for a frame comes to. -/
theorem State.ask_cases (s : State) :
    (s.chosen = none ∧ s.ask = s) ∨
    (∃ e, s.chosen = some e ∧ s.ask = { s with
      outbound := { s.outbound with
        entries := s.outbound.entries.map fun x => if x.kind = e.kind then { x with onLine := true } else x
        sending := s.frameOf e.kind }
      line := { s.line with ltx := .drive } }) := by
  cases h : s.chosen <;> simp [State.ask, h]

/-- R114 to R116: what an exhaustion comes to. -/
theorem State.actOnExhaustion_cases (s : State) :
    ((∀ e ∈ s.outbound.entries, e.retries < s.retryLimit) ∧ s.actOnExhaustion = s) ∨
    (∃ e ∈ s.outbound.entries, s.retryLimit ≤ e.retries ∧ e.kind.isJoin = true ∧
      s.actOnExhaustion = s.halt .joinFailed) ∨
    (∃ e ∈ s.outbound.entries, s.retryLimit ≤ e.retries ∧ e.kind.isJoin = false ∧
      s.actOnExhaustion = s.selfRestart .retries) := by
  cases h : s.exhausted with
  | none =>
    refine .inl ⟨?_, by simp [State.actOnExhaustion, h]⟩
    simpa [State.exhausted] using h
  | some e =>
    have hm := List.mem_of_find?_eq_some h
    have hr : s.retryLimit ≤ e.retries := by simpa using List.find?_some h
    cases hj : e.kind.isJoin
    · exact .inr (.inr ⟨e, hm, hr, hj, by simp [State.actOnExhaustion, h, hj]⟩)
    · exact .inr (.inl ⟨e, hm, hr, hj, by simp [State.actOnExhaustion, h, hj]⟩)

/-! ### The table -/

/-- R16 to R18: a placement leaves the table or adds one record at its end. -/
theorem Table.place_cases (t : Table) (owner tag : Nat) (m : Mode) (zones : List Nat) :
    (∃ r, t.judgeClaim owner tag m zones = .refused r ∧ t.place owner tag m zones = t) ∨
    (t.judgeClaim owner tag m zones = .granted ∧ t.place owner tag m zones =
      t.append { owner := owner, tag := tag, mode := m, zones := zones, status := .granted }) ∨
    (t.judgeClaim owner tag m zones = .waiting ∧ t.place owner tag m zones =
      t.append { owner := owner, tag := tag, mode := m, zones := zones, status := .waiting }) := by
  cases h : t.judgeClaim owner tag m zones <;> simp [Table.place, h]

/-- R11: one visit grants the record or leaves everything. -/
theorem Table.visit_cases (acc : Table × List RecordRef) (r : Record) :
    (acc.1.grantable r = true ∧ Table.visit acc r = (acc.1.grant r, acc.2 ++ [r.ref])) ∨
    (acc.1.grantable r = false ∧ Table.visit acc r = acc) := by
  cases h : acc.1.grantable r <;> simp [Table.visit, h]

/-- R8, R11: the visits of a grant pass leave the sequence number. -/
theorem Table.visits_sequence (l : List Record) (acc : Table × List RecordRef) :
    (l.foldl Table.visit acc).1.sequence = acc.1.sequence := by
  induction l generalizing acc with
  | nil => rfl
  | cons r l ih =>
    rw [List.foldl_cons, ih]
    obtain ⟨_, h⟩ | ⟨_, h⟩ := Table.visit_cases acc r <;> rw [h]
    rfl

/-- R8, R11: the grant pass leaves the sequence number. -/
@[simp] theorem Table.grantPass_sequence (t : Table) : t.grantPass.1.sequence = t.sequence :=
  Table.visits_sequence _ _

/-! ### The lease unit at a frame end -/

/-- R72, R74: the own timers change nothing but the lease unit, and there neither the leases nor the window. -/
theorem State.ownTimersAfter_cases (own : Bool) (s : State) :
    (s.table.countOf s.own = 0 ∧
      s.ownTimersAfter own = { s with lease := { s.lease with pulse := .inactive, selfGuard := .inactive } }) ∨
    (s.table.countOf s.own ≠ 0 ∧ (own = true ∨ s.lease.selfGuard = .inactive) ∧
      s.ownTimersAfter own = { s with lease := { s.lease with
        pulse := .running s.durations.pulse, selfGuard := .running s.durations.selfGuard } }) ∨
    (s.table.countOf s.own ≠ 0 ∧ own = false ∧ s.lease.selfGuard ≠ .inactive ∧ s.ownTimersAfter own = s) := by
  unfold State.ownTimersAfter
  split
  · rename_i h; exact .inl ⟨h, rfl⟩
  · split
    · rename_i h g; exact .inr (.inl ⟨h, g, rfl⟩)
    · rename_i h g
      refine .inr (.inr ⟨h, ?_, ?_, rfl⟩)
      · cases own <;> simp_all
      · intro e; exact g (.inr e)

/-- R70: requests for a list of EXPIRE entries change nothing but the outbound set. -/
theorem State.requests_frame (l : List Lease) (s : State) :
    l.foldl (fun u x => u.request (.expire x.peer)) s =
      { s with outbound := (l.foldl (fun u x => u.request (.expire x.peer)) s).outbound } := by
  induction l generalizing s with
  | nil => rfl
  | cons a l ih => rw [List.foldl_cons, ih]; rfl

/-- R71: the lease unit's work at a frame end changes the lease unit and the outbound set alone. -/
theorem State.leaseWork_frame (renewed expired : Option Nat) (own frozen : Bool) (s : State) :
    s.leaseWork renewed expired own frozen =
      { s with
        lease := (s.leaseWork renewed expired own frozen).lease
        outbound := (s.leaseWork renewed expired own frozen).outbound } := by
  have timed : ∀ u : State, u.ownTimersAfter own = { u with lease := (u.ownTimersAfter own).lease } := by
    intro u
    obtain ⟨_, h⟩ | ⟨_, _, h⟩ | ⟨_, _, _, h⟩ := State.ownTimersAfter_cases own u <;> rw [h]
  unfold State.leaseWork
  split
  · unfold State.enterDeferred
    rw [State.requests_frame, timed]
    rfl
  · rw [timed]
    rfl

end Sys2Proof.Machine
end

