-- ==== Sys2Proof/Tests/Slice0.lean ====
section
/-! SUPPORT. Tests/Slice0.lean: the smoke tests of the well-formedness checks, small tests of the commands against the
spec's tables and examples, and for every obligation with hypotheses the states and operands that meet them. -/

namespace Sys2Proof.Tests

set_option Elab.async false

open Sys2Proof.Machine

/-! ### Small stations -/

/-- The station after a command; the station itself where the command stops, which none does. -/
def after (i : Instr) (s : State) : State :=
  match exec i s with
  | .next t => t
  | .fault _ => s
  | .refused _ => s

/-- Station `own` of a cell of 8 roster slots and 16 zones, following a frame, with these members, all synced. -/
def station (x : StationState) (own : Byte) (members : List Nat) : State :=
  { State.reset with
    station := x
    config := { ConfigSet.reset with station := own, rosterSlots := 8, zoneCount := 16 }
    lease := { LeaseUnit.reset with
      durations := some { lease := 1000, pulse := 250, guardMargin := 200, selfGuard := 800, window := 500 } }
    roster := { members := members.map fun k => { number := k, misses := 0 }, synced := members, clash := false }
    line := { LineUnit.reset with sampling := true, tracking := .frame } }

/-- A slot with a request. -/
def slotWith (x : SlotState) (m : Mode) (zones : List Nat) : Slot :=
  { Slot.fresh with state := x, mode := some m, zones := zones }

/-- The cells of an error-free frame. -/
def framed (sender frameClass : Nat) (body : List Byte) : FrameCells :=
  let octets := keyOctet frameClass sender :: octet body.length :: body
  { key := keyOctet frameClass sender, length := octet body.length, body := body,
    crcHigh := octet ((crc octets).toNat / 256), crcLow := octet (crc octets).toNat, endFault := false }

/-- A frame of these cells that every listed station acks and none voids. -/
def takenBy (acks : StationSet) (c : FrameCells) : FrameObs :=
  { cells := c, rollCall := acks, verdict1 := .rest, verdict2 := .rest, standing := [] }

/-- A frame of these cells that some station voids. -/
def voidWith (acks : StationSet) (c : FrameCells) : FrameObs :=
  { cells := c, rollCall := acks, verdict1 := .drive, verdict2 := .rest, standing := [] }

/-- Every timer runs, with one tick left. -/
def timed (s : State) : State :=
  { s with lease := { s.lease with
      leases := [⟨4, .running 1⟩], pulse := .running 1, selfGuard := .running 1, window := .running 1 } }

/-- The station with one entry, its frame on the line. -/
def sending (k : EntryKind) (retries : Nat) (withdrawn : Bool) (s : State) : State :=
  { s with outbound :=
      { entries := [{ kind := k, retries := retries, onLine := true, withdrawn := withdrawn }], spent := false,
        sending := s.frameOf k } }

/-- The cells of the station's own frame for a kind. -/
def ownCells (s : State) (k : EntryKind) : FrameCells :=
  framed s.own k.frameClass (s.bodyOf k)

/-- A frame of the station's own that everyone acks. -/
def ownTaken (s : State) (k : EntryKind) : FrameObs :=
  takenBy s.roster.roster (ownCells s k)

/-- What holds of a station between two steps, as a test. -/
def holds (s : State) : Bool :=
  decide s.ConfigFits && (decide s.table.Wf && (decide s.TableWhere && (decide s.SlotsFit &&
    (decide s.OutboundFits && (decide s.RosterFits && (decide s.CensusFits && (decide s.SilentWhere &&
      (decide s.EntriesWhere && decide s.LeasesFit))))))))

theorem holds_sound {s : State} (h : holds s = true) : s.Inv := by
  simpa only [holds, Bool.and_eq_true, decide_eq_true_eq] using h

/-! ### Well-formed commands -/

/-- Cells whose length cell names two octets where the body has one. -/
def shortBody : FrameCells :=
  { key := 0, length := 2, body := [0], crcHigh := 0, crcLow := 0, endFault := false }

/-- Cells of a body of 41 octets (R36). -/
def longBody : FrameCells :=
  { key := 0, length := 41, body := List.replicate 41 0, crcHigh := 0, crcLow := 0, endFault := false }

theorem test_wellFormed_length_refused : (Instr.identityClash shortBody).wellFormed = false := by decide
theorem test_wellFormed_body_41_refused : (Instr.identityClash longBody).wellFormed = false := by decide
theorem test_wellFormed_body_40 :
    (Instr.identityClash (framed 1 3 (List.replicate 40 0))).wellFormed = true := by decide +kernel
theorem test_wellFormed_rollCall_order_refused :
    (Instr.frameEnd (takenBy [2, 1] (framed 1 6 []))).wellFormed = false := by decide +kernel
theorem test_wellFormed_rollCall_number_refused :
    (Instr.frameEnd (takenBy [32] (framed 1 6 []))).wellFormed = false := by decide +kernel
theorem test_wellFormed_standing_order_refused :
    (Instr.frameEnd { takenBy [1] (framed 1 2 []) with standing := [3, 3] }).wellFormed = false := by decide +kernel
theorem test_wellFormed_standing_only_at_join :
    (Instr.frameEnd { takenBy [1] (framed 1 6 []) with standing := [1] }).wellFormed = false ∧
      (Instr.frameEnd { takenBy [1] (framed 1 2 []) with standing := [1] }).wellFormed = true := by decide +kernel
theorem test_wellFormed_frameEnd_cells_refused :
    (Instr.frameEnd (takenBy [1] shortBody)).wellFormed = false := by decide +kernel
theorem test_wellFormed_unknown_operands_refused : (Instr.unknownCommand 0xE2 [0]).wellFormed = false := by decide
theorem test_wellFormed_unknown_known_refused :
    (Instr.unknownCommand 0x20 []).wellFormed = false ∧ (Instr.unknownCommand 0x21 [0]).wellFormed = true := by decide
theorem test_wellFormed_notTaken_eight_bits_refused :
    (Instr.transactionNotTaken [] (List.replicate 8 true)).wellFormed = false := by decide
theorem test_wellFormed_notTaken_complete_refused : (Instr.transactionNotTaken [0x41, 3] []).wellFormed = false := by
  decide
theorem test_wellFormed_frameStart_quiet :
    (Instr.frameStart 11).wellFormed = false ∧ (Instr.frameStart 12).wellFormed = true ∧
      (Instr.frameStart 41).wellFormed = false := by decide
theorem test_wellFormed_keyMark_quiet :
    (Instr.keyMark 40).wellFormed = true ∧ (Instr.keyMark 41).wellFormed = false := by decide
theorem test_wellFormed_peer :
    (Instr.peerLeaseReached 31).wellFormed = true ∧ (Instr.peerLeaseReached 32).wellFormed = false := by decide

/-! ### Frames -/

/-- The check value of this generator and start value over the digits 1 to 9, as catalogues of CRCs give it. -/
theorem test_crc_of_digits : crc [0x31, 0x32, 0x33, 0x34, 0x35, 0x36, 0x37, 0x38, 0x39] = 0x4C06#16 := by
  decide +kernel

/-- R31: bit 7 EXCLUSIVE and the tag in bits 2 to 0. -/
theorem test_claim_body_parses :
    parseFrame 8 16 5 [0x85, 2, 3, 15] = some (.claim 5 .exclusive [3, 15]) ∧
      parseFrame 8 16 5 [0x85, 2, 3, 16] = none ∧ parseFrame 8 16 5 [0x8D, 1, 3] = none := by decide

/-- R31, R39: a GRANTED EXCLUSIVE record of station 6, tag 5; an unused octet other than FF is refused. -/
theorem test_record_octets_parse :
    parseRecord 8 16 [0x35, 0xC2, 7, 9, 0xFF, 0xFF] =
      some { owner := 6, tag := 5, mode := .exclusive, zones := [7, 9], status := .granted } ∧
      parseRecord 8 16 [0x35, 0xC2, 7, 9, 0xFF, 0] = none := by decide

/-! ### The example of section 1.4 of 01 -/

/-- The table before: A (2, 0) holds zone 3; B (4, 1), C (6, 0), D (1, 2), E (3, 0) wait. -/
def exampleTable : Table :=
  { requests :=
      [⟨2, 0, .exclusive, [3], .granted⟩, ⟨4, 1, .shared, [3, 5], .waiting⟩, ⟨6, 0, .shared, [3], .waiting⟩,
       ⟨1, 2, .exclusive, [5, 7], .waiting⟩, ⟨3, 0, .shared, [7], .waiting⟩]
    zones := [⟨[], []⟩, ⟨[], []⟩, ⟨[], []⟩, ⟨[⟨2, 0, .exclusive⟩], [⟨4, 1, .shared⟩, ⟨6, 0, .shared⟩]⟩, ⟨[], []⟩,
      ⟨[], [⟨4, 1, .shared⟩, ⟨1, 2, .exclusive⟩]⟩, ⟨[], []⟩, ⟨[], [⟨1, 2, .exclusive⟩, ⟨3, 0, .shared⟩]⟩] ++
      List.replicate 56 ⟨[], []⟩
    sequence := 1207 }

/-- Owner and tag of the holders and of the waiters of a zone. -/
def zoneLists (t : Table) (z : Nat) : List (Nat × Nat) × List (Nat × Nat) :=
  ((t.zoneAt z).holders.map fun r => (r.owner, r.tag), (t.zoneAt z).waiters.map fun r => (r.owner, r.tag))

/-- Station 3, whose slot 0 stands for E. -/
def exampleStation : State :=
  { station .synced 3 [1, 2, 3, 4, 6] with
    table := exampleTable
    lease := { (station .synced 3 []).lease with leases := [1, 2, 4, 6].map fun k => ⟨k, .running 1000⟩ }
    slots := (List.replicate 8 Slot.fresh).set 0 (slotWith .waiting .shared [7]) }

/-- Station 3 after station 2's DROP of tag 0 is taken. -/
def exampleDropped : State :=
  after (.frameEnd (takenBy [1, 2, 3, 4, 6] (framed 2 4 [0]))) exampleStation

/-- Station 3 after station 4's DROP of tag 1 is taken next. -/
def exampleDroppedTwice : State :=
  after (.frameEnd (takenBy [1, 2, 3, 4, 6] (framed 4 4 [1])))
    { exampleDropped with line := { exampleDropped.line with tracking := .frame } }

theorem test_example_before :
    zoneLists exampleTable 3 = ([(2, 0)], [(4, 1), (6, 0)]) ∧ zoneLists exampleTable 5 = ([], [(4, 1), (1, 2)]) ∧
      zoneLists exampleTable 7 = ([], [(1, 2), (3, 0)]) := by decide +kernel
theorem test_frameEnd_drop_grants :
    zoneLists exampleDropped.table 3 = ([(4, 1), (6, 0)], []) ∧ zoneLists exampleDropped.table 5 = ([(4, 1)], [(1, 2)]) ∧
      zoneLists exampleDropped.table 7 = ([], [(1, 2), (3, 0)]) ∧ exampleDropped.table.sequence = 1208 := by
  decide +kernel
theorem test_frameEnd_second_drop_grants :
    zoneLists exampleDroppedTwice.table 7 = ([(1, 2)], [(3, 0)]) ∧ exampleDroppedTwice.table.sequence = 1209 ∧
      (exampleDroppedTwice.slotAt 0).state = .waiting := by decide +kernel

/-- The placements of the second example of 01. -/
theorem test_placement_example :
    (exampleDropped.table.judgeClaim 5 0 .shared [3] = .granted ∧
      exampleDropped.table.judgeClaim 5 0 .exclusive [3] = .waiting ∧
      exampleDropped.table.judgeClaim 5 1 .shared [3, 7] = .waiting ∧
      exampleDropped.table.judgeClaim 4 1 .shared [9] = .refused .tagInUse) := by decide +kernel

/-! ### Host commands -/

/-- Station 3 with slot 0 WAITING, 1 QUEUED, 2 GRANTED, 3 RELEASING, 4 LOST, 5 REFUSED and 6, 7 FREE. -/
def hosted : State :=
  { exampleStation with
    slots := [slotWith .waiting .shared [7], slotWith .queued .exclusive [1], slotWith .granted .shared [2, 4],
      slotWith .releasing .shared [5], { slotWith .lost .shared [6] with reason := some .expired },
      { slotWith .refused .shared [6] with reason := some .tagInUse }, Slot.fresh, Slot.fresh]
    outbound := { entries := [Entry.fresh (.claim 1)], spent := false, sending := [] } }

theorem test_configure_stored_bits :
    (after (.configure 3 8 16 0xFF 10 2 3 6 0xFF) State.reset).config =
      { station := 3, rosterSlots := 8, zoneCount := 16, rate := 3, leaseCode := 10, guardCode := 2, evict := 3, retry := 6,
        mask := 0x7F } := by decide
theorem test_configure_refused_in_synced :
    (after (.configure 3 8 16 0 10 2 3 6 0) hosted).port = .kept [0x07] 0 := by decide +kernel
theorem test_start_computes_durations :
    (after .start State.reset).lease.durations =
        some { lease := 1000, pulse := 250, guardMargin := 200, selfGuard := 800, window := 500 } ∧
      (after .start State.reset).station = .listen := by decide
theorem test_start_limit_not_above_eviction :
    (after .start (after (.configure 3 8 16 0 10 2 6 6 0) State.reset)).port = .kept [0x08, 5] 0 := by decide
theorem test_submit_repeated_zone : (after (.submit 6 0 2 9 9 0 0) hosted).port = .kept [0x06] 0 := by decide +kernel
theorem test_submit_keeps_zone_order :
    ((after (.submit 6 1 2 9 3 0xFF 0xFF) hosted).slotAt 6).zones = [9, 3] ∧
      ((after (.submit 6 1 2 9 3 0xFF 0xFF) hosted).slotAt 6).mode = some .exclusive := by decide +kernel
theorem test_drop_queued_frees :
    ((after (.drop 1) hosted).slotAt 1).state = .free ∧ (after (.drop 1) hosted).outbound.entries = [] := by
  decide +kernel
theorem test_drop_granted_releases :
    ((after (.drop 2) hosted).slotAt 2).state = .releasing ∧
      (after (.drop 2) hosted).outbound.entries.map Entry.kind = [.claim 1, .drop 2] := by decide +kernel
theorem test_clear_lost : (after (.clear 4) hosted).port = .kept [0x01] 0 ∧
    ((after (.clear 4) hosted).slotAt 4).changed = true := by decide +kernel
theorem test_clear_linked :
    (after (.clear 0) { hosted with slots := [{ slotWith .lost .shared [7] with reason := some .fenced }] }).port =
      .kept [0x05] 0 := by decide +kernel
theorem test_slot_octets :
    (after (.slot 2) hosted).port = .kept [0x01, 3, 0, 0, 2, 2, 4, 0xFF, 0xFF] 0 := by decide +kernel
theorem test_zone_octets :
    (after (.zone 3) hosted).port = .kept [0x01, 1, 2, 0x10, 0x80, 0x21, 0, 0x30, 0] 0 ∧
      (after (.zone 16) hosted).port = .kept [0x06] 0 := by decide +kernel
theorem test_roster_octets :
    (after .roster hosted).port =
      .kept [0x01, 4, 0x5E, 0, 0, 0, 0x5E, 0, 0, 0, 0, 0, 0, 0, 0, 0x04, 0xB7, 0] 0 := by decide +kernel
theorem test_attention_slot_source :
    (after .attention (after (.drop 2) hosted)).port = .kept [0x01, 7, 4, 0, 0x40] 0 := by decide +kernel
theorem test_acknowledge_roster :
    (after (.acknowledge 13) (hosted.raiseRoster 4)).port = .kept [0x01] 0 ∧
      (after (.acknowledge 13) hosted).port = .kept [0x03] 0 ∧ (after (.acknowledge 5) hosted).port = .kept [0x06] 0 := by
  decide +kernel
theorem test_leave_twice :
    (after .leave hosted).port = .kept [0x01] 0 ∧ (after .leave (after .leave hosted)).port = .kept [0x04] 0 := by
  decide +kernel
theorem test_restart_keeps_queued :
    (after .restart hosted).slots.map Slot.state = [.lost, .queued, .lost, .free, .lost, .refused, .free, .free] ∧
      (after .restart hosted).outbound.entries = [Entry.fresh (.claim 1)] := by decide +kernel
theorem test_ident_octets : (after .ident State.reset).port = .kept [0x01, 0x47, 0x5A, 0x32, 0x34] 0 := by decide
theorem test_unknown_answer : (after (.unknownCommand 0xE0 []) State.reset).port = .kept [0x09] 0 := by decide
theorem test_transactionNotTaken_idle : (after (.transactionNotTaken [0x41] []) State.reset).port = .idle := by decide

/-! The example of 09: two fenced slots seen from the host. -/

/-- Station 3 with slots 0 and 2 GRANTED. -/
def guarded : State :=
  { station .synced 3 [3, 5] with
    table := (Table.cleared.place 3 0 .exclusive [2]).place 3 2 .shared [7, 8]
    slots := [slotWith .granted .exclusive [2], Slot.fresh, slotWith .granted .shared [7, 8], Slot.fresh, Slot.fresh,
      Slot.fresh, Slot.fresh, Slot.fresh]
    lease := { (station .synced 3 []).lease with pulse := .running 3, selfGuard := .running 1 } }

theorem test_fence_enters_drops :
    (after .fence guarded).outbound.entries.map Entry.kind = [.drop 0, .drop 2] ∧
      (after .attention (after .fence guarded)).port = .kept [0x01, 5, 5, 0, 0x50] 0 ∧
      (after .fence guarded).atnLow = true := by decide +kernel
theorem test_fence_then_reads :
    (after (.slot 0) (after .fence guarded)).port = .kept [0x01, 5, 5, 1, 1, 2, 0xFF, 0xFF, 0xFF] 0 ∧
      (after (.clear 2) (after .fence guarded)).port = .kept [0x05] 0 := by decide +kernel

/-! The edges of the host port (R151, R152). -/

/-- The reset station after the eight bits of IDENT, CSN low. -/
def identTaken : State :=
  [true, true, false, true, false, false, false, false].foldl (fun s b => (State.sckRise b s).sckFall) State.reset.csnFall

theorem test_port_takes_ident :
    identTaken.port = .kept [0x01, 0x47, 0x5A, 0x32, 0x34] 1 ∧ identTaken.csnRise = State.reset := by decide

/-- The second octet of the response is 0x47, most significant bit first; a rising edge shifts nothing. -/
theorem test_port_shifts_on_falling_edges :
    ((List.range 8).map fun n => (State.sckFall^[8 + n] identTaken).sdo) =
        [some false, some true, some false, some false, some false, some true, some true, some true] ∧
      (identTaken.sckRise true).sdo = identTaken.sdo := by decide
theorem test_port_breaks_off :
    (State.sckRise true State.reset.csnFall).csnRise = State.reset ∧
      (State.sckRise true State.reset.csnFall).csnRise.csnFall.port = .receiving [] [] := by decide

/-! ### Reset -/

theorem test_coldReset_holds : (after .coldReset hosted).resetnLow = true ∧ (after .coldReset hosted).station = .config := by
  decide +kernel
theorem test_resetnRelease_ignores :
    (after (.resetnRelease true) (after .coldReset hosted)).port = .ignoring ∧
      after (.resetnRelease false) (after .coldReset hosted) = State.reset := by decide +kernel

/-! ### Events of the line -/

/-- A station in QUIET with quiet time 0 and a CLAIM entry. -/
def quietStation : State :=
  { hosted with line := { hosted.line with tracking := .quiet } }

/-- A station whose CLAIM of tag 1 is on the line. -/
def claiming : State :=
  sending (.claim 1) 0 false hosted

/-- This station in a frame whose judgement is open. -/
def judged (s : State) : State :=
  { s with judgement := some Judgement.opened }

/-- The cells of the own frame with the driven bit 4 of its key read REST. -/
def misread (s : State) (k : EntryKind) : FrameCells :=
  { ownCells s k with key := (ownCells s k).key ||| 0x10 }

theorem test_frameStart_fixes :
    (after (.frameStart 12) quietStation).line.ltx = .drive ∧
      (after (.frameStart 12) quietStation).outbound.sending.take 5 = [0xA3, 3, 0x81, 1, 1] := by decide +kernel
theorem test_frameStart_spent_waits :
    (after (.frameStart 39) { quietStation with outbound := { quietStation.outbound with spent := true } }).line.ltx =
        .rest ∧
      (after (.frameStart 40) { quietStation with outbound := { quietStation.outbound with spent := true } }).line.ltx =
        .drive := by decide +kernel
theorem test_keyMark_contends_from_12 :
    (after (.keyMark 11) quietStation).outbound.onLine = none ∧
      (after (.keyMark 12) quietStation).outbound.onLine.isSome = true ∧
      (after (.keyMark 11) quietStation).line.tracking = .frame := by decide +kernel
theorem test_keyMark_resynchronises :
    (after (.keyMark 0) { quietStation with line := { quietStation.line with phase := 11 } }).line.phase = 3 ∧
      (after (.keyMark 0) quietStation).line.accepted = .drive := by decide +kernel
theorem test_arbitrationLoss_uncounted :
    (after .arbitrationLoss claiming).outbound.entries = [Entry.fresh (.claim 1)] := by decide +kernel
theorem test_bitError_counts :
    (after .bitError claiming).outbound.entries.map Entry.retries = [1] ∧
      (after .bitError claiming).line.ltx = .rest := by decide +kernel
theorem test_bitError_sixth :
    (after .bitError (sending (.claim 1) 5 false hosted)).station = .listen ∧
      (after .bitError (sending (.claim 1) 5 false hosted)).attention.out = { pending := true, detail := 2 } := by
  decide +kernel
theorem test_frameBrokenOff_recovers :
    (after (.frameBrokenOff .markRest) hosted).line.tracking = .recovering ∧
      (after (.frameBrokenOff .markRest) hosted).line.recoverRun = 1 := by decide +kernel
theorem test_identityClash_halts :
    (after (.identityClash (framed 3 6 [])) hosted).station = .halted ∧
      (after (.identityClash (framed 4 6 [])) hosted).station = .synced := by decide +kernel

/-- R60 case 2: the frame in which the own CLAIM met a bit error completes GOOD under another number; the slot stays. -/
theorem test_identityClash_after_bitError :
    (after (.identityClash (framed 4 6 [])) (after .bitError (judged claiming))).station = .halted ∧
      (after (.identityClash { framed 4 6 [] with crcLow := 0 }) (after .bitError (judged claiming))).station = .synced := by
  decide +kernel
theorem test_identityClash_ends_attempt :
    (after (.identityClash (framed 3 6 [])) claiming).outbound.onLine = none ∧
      (after (.identityClash (framed 3 6 [])) claiming).outbound.entries.map Entry.retries = [0] := by decide +kernel
theorem test_stuck_raises_line :
    (after .stuck hosted).attention.line = { pending := true, detail := 1 } ∧ (after .stuck hosted).line.tracking = .none := by
  decide +kernel
theorem test_lineNormal_recovers :
    (after .lineNormal (after .stuck hosted)).line.tracking = .recovering ∧
      (after .lineNormal (after .stuck hosted)).line.driveRun = 0 := by decide +kernel
theorem test_frameAware_joins :
    (after .frameAware (after .start State.reset)).station = .joining ∧
      (after .frameAware (after .start State.reset)).outbound.entries = [Entry.fresh (.join false)] ∧
      (after .frameAware (after .start State.reset)).line.quiet = 40 := by decide
theorem test_roundGap_clears_spent :
    (after .roundGap { quietStation with outbound := { quietStation.outbound with spent := true } }).outbound.spent =
      false := by decide +kernel

/-! ### Frame ends -/

theorem test_frameEnd_founds :
    let s := sending (.join false) 0 false (station .joining 3 [])
    (after (.frameEnd (takenBy [3] (ownCells s (.join false)))) s).station = .synced ∧
      (after (.frameEnd (takenBy [3] (ownCells s (.join false)))) s).roster.synced = [3] := by decide +kernel
theorem test_frameEnd_evicts :
    let s := { hosted with roster := { hosted.roster with
      members := [⟨1, 0⟩, ⟨2, 2⟩, ⟨3, 0⟩, ⟨4, 0⟩, ⟨6, 0⟩] } }
    zoneLists (after (.frameEnd (voidWith [1, 3, 4, 6] (framed 4 6 []))) s).table 3 = ([(4, 1), (6, 0)], []) ∧
      (after (.frameEnd (voidWith [1, 3, 4, 6] (framed 4 6 []))) s).attention.roster = { pending := true, detail := 2 } := by
  decide +kernel

/-- R47, R112: the own VOID is counted though a driven bit of its key was read REST. -/
theorem test_frameEnd_counts_misread_void :
    (after (.frameEnd (voidWith [1, 2, 3, 4, 6] (misread hosted (.claim 1)))) claiming).outbound.entries.map Entry.retries =
      [1] := by decide +kernel

/-- R134: a drop-wanted CLAIM of tag 1 that ends TAKEN, received GOOD as one of tag 2, and one that ends TAKEN unread. -/
theorem test_frameEnd_clears_drop_wanted :
    let c := framed 3 5 [2, 1, 1]
    ∀ d ∈ [c, { c with crcLow := 0 }],
      let s := sending (.claim 1) 0 true
        { hosted with slots := hosted.slots.set 1 { slotWith .queued .exclusive [1] with dropWanted := true } }
      let t := after (.frameEnd (takenBy [1, 2, 3, 4, 6] d)) s
      (t.slotAt 1).state = .queued ∧ (t.slotAt 1).dropWanted = false ∧ t.outbound.entries = [] := by decide +kernel

/-- R124, R125: the frame ends at sample 10 with its level held, and the last frame phase closes at sample 16. -/
theorem test_last_phase_closes_at_16 :
    let s := { hosted with line := { hosted.line with phase := 10 } }
    let ended := after (.frameEnd (takenBy [1, 2, 3, 4, 6] (framed 4 6 []))) s
    ended.line.tracking = .ending ∧ (State.sample^[5] ended).line.tracking = .ending ∧
      (State.sample^[6] ended).line.tracking = .quiet ∧ (State.sample^[6] ended).line.quiet = 0 := by decide +kernel

/-! ### Deadlines -/

theorem test_peerLeaseReached_expires :
    (after (.peerLeaseReached 4) { hosted with lease := { hosted.lease with leases := [⟨4, .running 1⟩] } }).outbound.entries
      = [Entry.fresh (.claim 1), Entry.fresh (.expire 4)] := by decide +kernel
theorem test_ownPulseDeadlineReached_pulses :
    (after .ownPulseDeadlineReached guarded).outbound.entries = [Entry.fresh .pulse] := by decide +kernel
theorem test_censusWindowReached_joins :
    let s := station .syncing 3 [3, 5]
    (after .censusWindowReached { s with lease := { s.lease with window := .running 0 } }).outbound.entries =
      [Entry.fresh (.join true)] := by decide +kernel

/-! ### The obligations' hypotheses are met: clocks, reset and the host port -/

theorem exec_after (c : Instr) (s : State) : exec c s = .next (after c s) := by cases c <;> rfl

theorem hosted_inv : hosted.Inv := holds_sound (by decide +kernel)

theorem witness_ClkinDividesIntoTicksAndSamples :
    ((after .coldReset hosted).pending = [] ∧ (after .coldReset hosted).resetnLow = true) ∧
      (let s := { hosted with lease := { hosted.lease with divider := 1599 } }
       s.pending = [] ∧ s.resetnLow = false ∧ s.lease.divider < 1600 ∧ s.line.sampling = true) ∧
      (∀ n ∈ [6, 7],
        let s := { hosted with
          lease := { hosted.lease with divider := 1598 }, line := { hosted.line with divider := n } }
        s.pending = [] ∧ s.resetnLow = false ∧ s.lease.divider + 1 < 1600 ∧ s.line.sampling = true ∧
          (n + 1 < 16 / 2 ^ s.config.rate.toNat ↔ n = 6)) ∧
      (State.reset.line.sampling = false ∧ State.reset.lease.divider + 1 < 1600) := by decide +kernel

theorem witness_CommandsKeepConfigurationAndPort :
    (Instr.stuck ≠ .coldReset ∧ hosted.station ≠ .config ∧ ∀ b, Instr.stuck ≠ .resetnRelease b) ∧
      (hostCommandOf .fence = false ∧ (∀ k o, Instr.fence ≠ .unknownCommand k o) ∧
        (∀ o b, Instr.fence ≠ .transactionNotTaken o b) ∧ Instr.fence ≠ .coldReset ∧
        ∀ b, Instr.fence ≠ .resetnRelease b) :=
  ⟨⟨nofun, by decide +kernel, nofun⟩, rfl, nofun, nofun, nofun, nofun⟩

theorem witness_TimersReachTheirTick :
    (let s := { State.reset with lease := { LeaseUnit.reset with divider := 1599 } }
     s.pending = [] ∧ s.resetnLow = false ∧ s.lease.divider = 1599 ∧ s.line.sampling = false) ∧
      (∀ n ∈ [6, 7],
        let s := { hosted with
          lease := { hosted.lease with divider := 1599 }, line := { hosted.line with divider := n } }
        s.pending = [] ∧ s.resetnLow = false ∧ s.lease.divider = 1599 ∧ s.line.sampling = true ∧
          (n + 1 < 16 / 2 ^ s.config.rate.toNat ↔ n = 6)) ∧
      (guarded.LeasesFit ∧ guarded.lease.pulse = .running 3 ∧ guarded.lease.selfGuard = .running 1) ∧
      (hosted.LeasesFit ∧ hosted.lease.leaseOf 6 = .running 1000) ∧
      (timed hosted).lease.window = .running 1 := by decide +kernel

/-- At the tick at which every timer falls due, the deadlines have their entries: a SYNCED station's and a SYNCING one's. -/
theorem test_tick_reaches_deadlines :
    let s := { guarded with lease := { guarded.lease with
      leases := [⟨5, .running 1⟩], pulse := .running 1, selfGuard := .running 1 } }
    s.tick.outbound.entries.map Entry.kind = [.expire 5, .pulse, .drop 0, .drop 2] ∧
      ((timed (station .syncing 3 [3, 5])).tick.outbound.entries.map Entry.kind) = [.join true] := by decide +kernel

theorem witness_HostOctetsDecodeToTheirCommand :
    ((Instr.drop 7).wellFormed = true ∧ hostOctets (.drop 7) = some [0x41, 7] ∧ 1 < [0x41#8, 7#8].length) ∧
      ((Instr.unknownCommand 0xF1 [0]).wellFormed = true ∧ hostOctets (.unknownCommand 0xF1 [0]) = some [0xF1, 0]) ∧
      (State.reset.port = .idle ∧ State.reset.resetnLow = false) ∧
      ((after .ident State.reset).port = .kept [0x01, 0x47, 0x5A, 0x32, 0x34] 0 ∧
        (after .ident State.reset).resetnLow = false) ∧
      (State.reset.csnFall.port = .receiving [] [] ∧ State.reset.csnFall.resetnLow = false) ∧
      ((after .coldReset State.reset).resetnLow = true ∧
        (after (.resetnRelease true) (after .coldReset State.reset)).port = .ignoring ∧
        (after (.resetnRelease true) (after .coldReset State.reset)).resetnLow = false) := by
  decide

theorem witness_RefusedCommandChangesNothing :
    (hostCommandOf .start = true ∧ hosted.resetnLow = false) ∧
      ∃ k o, Instr.unknownCommand 0xE0 [] = .unknownCommand k o :=
  ⟨by decide +kernel, 0xE0, [], rfl⟩

theorem witness_TransactionsWithoutEffect :
    let s := after .coldReset hosted
    hosted.resetnLow = false ∧ s.resetnLow = true ∧ hostCommandOf .ident = true ∧ (∃ k o, Instr.unknownCommand 0xE0 [] = .unknownCommand k o) ∧
      ∃ o b, Instr.transactionNotTaken [] [true] = .transactionNotTaken o b :=
  ⟨by decide +kernel, by decide +kernel, rfl, ⟨0xE0, [], rfl⟩, ⟨[], [true], rfl⟩⟩

/-- The reset state with another configuration set. -/
def configured (c : ConfigSet) : State :=
  { State.reset with config := c }

/-- The six checks of R172, as the statement lists them. -/
def startChecks (c : ConfigSet) : List Bool :=
  [decide (4 ≤ c.rosterSlots.toNat ∧ c.rosterSlots.toNat ≤ 32), decide (c.station.toNat < c.rosterSlots.toNat),
   decide (8 ≤ c.zoneCount.toNat ∧ c.zoneCount.toNat ≤ 64), decide (2 ≤ c.evict.toNat ∧ c.evict.toNat ≤ 8),
   decide (3 ≤ c.retry.toNat ∧ c.retry.toNat ≤ 15 ∧ c.evict.toNat < c.retry.toNat),
   decide (1 ≤ c.guardCode.toNat ∧ c.guardCode.toNat ≤ 63 ∧ 2 * c.guardCode.toNat ≤ c.leaseCode.toNat)]

theorem witness_ConfigureThenStart :
    (hosted.resetnLow = false ∧ hosted.station ≠ .config) ∧
      (∀ n ∈ [32, 4], (startChecks { ConfigSet.reset with rosterSlots := BitVec.ofNat 8 n }).findIdx? (!·) = none) ∧
      (startChecks { ConfigSet.reset with rosterSlots := 3 }).findIdx? (!·) = some 0 ∧
      (startChecks { ConfigSet.reset with station := 32 }).findIdx? (!·) = some 1 ∧
      (startChecks { ConfigSet.reset with zoneCount := 65 }).findIdx? (!·) = some 2 ∧
      (startChecks { ConfigSet.reset with evict := 9, retry := 10 }).findIdx? (!·) = some 3 ∧
      (startChecks { ConfigSet.reset with retry := 16 }).findIdx? (!·) = some 4 ∧
      (startChecks { ConfigSet.reset with guardCode := 0 }).findIdx? (!·) = some 5 ∧
      State.reset.station = .config ∧ State.reset.resetnLow = false := by decide +kernel

theorem witness_SubmitChecksInOrder :
    hosted.resetnLow = false ∧ 7 < (8#8).toNat ∧ (7#8).toNat ≤ 7 ∧ State.reset.station = .config ∧
      hosted.station = .synced ∧ (hosted.slotAt 5).state ≠ .free ∧ (hosted.slotAt 7).state = .free ∧
      ¬(∀ z ∈ [16], z < hosted.config.zoneCount.toNat) ∧
      (∀ z ∈ [15, 0, 1, 2], z < hosted.config.zoneCount.toNat) ∧ [15, 0, 1, 2].Nodup := by decide +kernel

/-- A station whose CLAIM of tag 1 is on the line, its slot drop-wanted. -/
def dropWanting : State :=
  sending (.claim 1) 0 true
    { hosted with slots := hosted.slots.set 1 { slotWith .queued .exclusive [1] with dropWanted := true } }

theorem witness_HostDropBySlotState :
    hosted.resetnLow = false ∧ 7 < (8#8).toNat ∧ (7#8).toNat ≤ 7 ∧ (hosted.slotAt 7).state = .free ∧
      (hosted.slotAt 4).state = .lost ∧ (hosted.slotAt 5).state = .refused ∧ (hosted.slotAt 3).state = .releasing ∧
      ((dropWanting.slotAt 1).state = .queued ∧ (dropWanting.slotAt 1).dropWanted = true) ∧
      ((hosted.slotAt 1).state = .queued ∧ (hosted.slotAt 1).dropWanted = false ∧
        ∀ e ∈ hosted.outbound.entries.filter (fun e => e.kind == .claim 1), e.onLine = false) ∧
      (claiming.outbound.entries.filter (fun e => e.kind == .claim 1) ≠ [] ∧
        ∀ e ∈ claiming.outbound.entries.filter (fun e => e.kind == .claim 1), e.onLine = true) ∧
      (hosted.slotAt 0).state = .waiting ∧ (hosted.slotAt 2).state = .granted := by decide +kernel

/-- A station whose slot 0 is LOST and linked. -/
def linkedLost : State :=
  { hosted with slots := hosted.slots.set 0 { slotWith .lost .shared [7] with reason := some .fenced } }

theorem witness_ClearFreesUnlinkedSlot :
    7 < (8#8).toNat ∧ hosted.resetnLow = false ∧ (hosted.slotAt 5).state = .refused ∧
      ((hosted.slotAt 4).state = .lost ∧ ¬∃ r ∈ hosted.table.requests, r.owner = hosted.config.station.toNat ∧ r.tag = 4) ∧
      ((linkedLost.slotAt 0).state = .lost ∧ linkedLost.station = .synced ∧
        ∃ r ∈ linkedLost.table.requests, r.owner = linkedLost.config.station.toNat ∧ r.tag = 0) ∧
      (hosted.slotAt 7).state = .free := by decide +kernel

theorem witness_SlotFlagAndReads :
    (hosted.resetnLow = false ∧ 7 < (8#8).toNat ∧ (7#8).toNat ≤ 7 ∧ (hosted.slotAt 7).zones.length ≤ 4) ∧
      hosted.config.zoneCount.toNat ≤ (16#8).toNat ∧
      ((15#8).toNat < hosted.config.zoneCount.toNat ∧ hosted.station = .synced) ∧
      ((63#8).toNat < State.reset.config.zoneCount.toNat ∧ State.reset.station ≠ .synced ∧
        State.reset.station ≠ .halted) := by decide +kernel

/-- The reads of ROSTER, IDENT and ATTENTION ask for RESETN high alone. -/
theorem witness_ResetnHigh : hosted.resetnLow = false ∧ State.reset.resetnLow = false := by decide +kernel

theorem witness_AcknowledgeClearsNamedSource :
    hosted.resetnLow = false ∧ (5#8) ≠ 4 ∧ hosted.attention.foreign.pending = false ∧
      (hosted.raiseForeign 4).attention.foreign.pending = true ∧ (hosted.raiseForeign 4).resetnLow = false := by
  decide +kernel

theorem witness_HostLeaveEntersOneEntry :
    State.reset.station ≠ .synced ∧
      (hosted.station = .synced ∧ (hosted.outbound.entries.any fun e => e.kind == .leave) = false) ∧
      ((after .leave hosted).station = .synced ∧ (after .leave hosted).resetnLow = false ∧
        ((after .leave hosted).outbound.entries.any fun e => e.kind == .leave) = true) := by decide +kernel

theorem witness_RestartGivesUpTheCell :
    State.reset.station = .config ∧
      (hosted.station ≠ .config ∧ hosted.station ≠ .listen ∧ ∀ e ∈ hosted.outbound.entries, e.withdrawn = false) ∧
      (sending .leave 0 true hosted).outbound.entries.filter (fun x => x.onLine) = [⟨.leave, 0, true, true⟩] ∧
      (dropWanting.resetnLow = false ∧ dropWanting.station = .synced ∧
        dropWanting.outbound.entries.filter (fun x => x.onLine) = [⟨.claim 1, 0, true, true⟩] ∧
        (dropWanting.slotAt 1).state = .queued ∧ (dropWanting.slotAt 1).dropWanted = true) := by decide +kernel

theorem witness_ColdResetAndRelease :
    (after .coldReset hosted).resetnLow = true ∧ State.reset.resetnLow = false := by decide +kernel

/-! ### The table -/

/-- 48 GRANTED records, one to a zone. -/
def fullTable : Table :=
  let records := (List.range 48).map fun i => (⟨i / 8, i % 8, .shared, [i], .granted⟩ : Record)
  { requests := records, zones := entriesFor records, sequence := 0 }

/-- Eight records waiting for the zone that an EXCLUSIVE one holds. -/
def queuedTable : Table :=
  let records := (⟨1, 0, .exclusive, [7], .granted⟩ : Record) ::
    (List.range 8).map fun i => (⟨2, i, .shared, [7], .waiting⟩ : Record)
  { requests := records, zones := entriesFor records, sequence := 0 }

theorem witness_GrantPassSettlesTheTable :
    exampleTable.Sound ∧ (exampleTable.remove fun o k => o == 2 && k == 0).Sound := by decide +kernel

/-- B of the example before and after A's removal: not grantable, grantable. -/
theorem witness_GrantabilityTest :
    let b : Record := ⟨4, 1, .shared, [3, 5], .waiting⟩
    exampleTable.grantable b = false ∧ (exampleTable.remove fun o k => o == 2 && k == 0).grantable b = true := by
  decide +kernel

theorem witness_ClaimPlacement :
    exampleTable.Wf ∧ (∃ r ∈ exampleTable.requests, r.owner = 4 ∧ r.tag = 1) ∧
      (¬∃ r ∈ exampleTable.requests, r.owner = 31 ∧ r.tag = 7) ∧
      (∀ z ∈ [63], (exampleTable.zoneAt z).waiters = [] ∧ (exampleTable.zoneAt z).compatible .exclusive = true) ∧
      (¬∀ z ∈ [3], (exampleTable.zoneAt z).waiters = [] ∧ (exampleTable.zoneAt z).compatible .shared = true) ∧
      (¬∃ z ∈ [3], 8 ≤ (exampleTable.zoneAt z).waiters.length) := by decide +kernel

theorem witness_ClaimPlacement_full : fullTable.Wf ∧ 48 ≤ fullTable.requests.length ∧
    ¬∃ r ∈ fullTable.requests, r.owner = 6 ∧ r.tag = 0 := by decide +kernel

theorem witness_ClaimPlacement_queueFull :
    queuedTable.Wf ∧ (¬∃ r ∈ queuedTable.requests, r.owner = 5 ∧ r.tag = 3) ∧ queuedTable.requests.length < 48 ∧
      (¬∀ z ∈ [7], (queuedTable.zoneAt z).waiters = [] ∧ (queuedTable.zoneAt z).compatible .shared = true) ∧
      ∃ z ∈ [7], 8 ≤ (queuedTable.zoneAt z).waiters.length := by decide +kernel

theorem witness_InstallationRebuildsTheTable : exampleTable.Wf ∧ fullTable.Wf := by decide +kernel

/-! ### Frames and line events -/

theorem witness_OwnFramesParseToTheirEntry :
    hosted.Inv ∧ hosted.station ≠ .config ∧ 7 < hosted.rosterSlots ∧ (hosted.slotAt 5).state ≠ .free ∧
      1 < partCount hosted.table.requests.length ∧
      (∀ r ∈ hosted.table.requests, r.owner < hosted.rosterSlots ∧ ∀ z ∈ r.zones, z < hosted.zoneCount) ∧
      (∀ j ∈ hosted.census.joiners, j < hosted.rosterSlots) ∧
      hosted.census.joiners = (List.range 32).filter (fun j => hosted.census.joiners.contains j) :=
  ⟨hosted_inv, by decide +kernel⟩

theorem witness_MemberAcksVoidsAndStands :
    (hosted.line.condition = .normal ∧ hosted.station = .synced ∧ (station .syncing 3 [3, 5]).station = .syncing) ∧
      (let s := sending (.join false) 0 false (station .joining 3 [])
       s.line.condition = .normal ∧ s.station = .joining ∧ s.outbound.onLine = some ⟨.join false, 0, true, false⟩ ∧
        ∀ i, i < 8 → (keyOctet 2 s.own).getLsbD i = true → (ownCells s (.join false)).key.getLsbD i = true) ∧
      (after .stuck hosted).line.condition = .stuck ∧ (station .parked 3 []).station = .parked := by
  decide +kernel

theorem witness_ChoiceIsLowestThenOldest :
    hosted.line.tracking ≠ .none ∧ quietStation.OutboundFits ∧
      quietStation.chosen = some (Entry.fresh (.claim 1)) ∧ State.reset.OutboundFits ∧ State.reset.chosen = none := by
  decide +kernel

/-- A record of a frame after so many of its octets. -/
def partlyRead (octets : List Byte) : Rx :=
  { Rx.opened with position := 10 * octets.length, octets := octets }

/-- A station in the last frame phase, after this sample, with this level on the rest of the line. -/
def lastPhase (phase : Nat) (far : Level) : State :=
  { hosted with line := { hosted.line with tracking := .ending, phase := phase, filterRun := 2, far := far } }

/-- Sample 1 in QUIET, with and without an own frame on the line, and while RECOVERING; a bit of a frame read at either
level; a sample that accepts DRIVE in QUIET; sample 10, sample 16 and another. -/
theorem witness_SampleFilterAndPhase_events :
    (quietStation.line.tracking = .quiet ∧ quietStation.outbound.onLine = none) ∧
      ((after (.frameStart 12) quietStation).line.tracking = .quiet ∧
        (after (.frameStart 12) quietStation).outbound.onLine ≠ none) ∧
      (after .restart hosted).line.tracking = .recovering ∧
      (hosted.line.tracking = .frame ∧ hosted.line.condition = .normal ∧ hosted.line.accepted = .rest) ∧
      (let s := { hosted with line := { hosted.line with accepted := .drive, driveRun := 46 } }
       s.line.tracking = .frame ∧ s.line.condition = .normal ∧ s.line.accepted = .drive ∧ s.line.driveRun < 47) ∧
      (let s := { quietStation with line := { quietStation.line with filterRun := 2, far := .drive, phase := 5 } }
       s.line.filterRun < 3 ∧ s.line.far = .drive ∧ s.line.accepted = .rest ∧ s.line.tracking = .quiet) ∧
      ∀ n ∈ [8, 9, 15],
        let s := { hosted with line := { hosted.line with phase := n } }
        s.line.filterRun < 3 ∧ s.line.far = s.line.accepted ∧ (s.line.phase % 16 + 1 = 10 ↔ n = 9) ∧
          (s.line.phase % 16 + 1 = 16 ↔ n = 15) ∧ s.line.tracking ≠ .ending := by decide +kernel

theorem witness_SampleFilterAndPhase :
    (∀ n ∈ [0, 2], ({ hosted with line := { hosted.line with filterRun := n } } : State).line.filterRun < 3) ∧
      (∀ n ∈ [10, 14], ∀ far ∈ [Level.rest, .drive], (lastPhase n far).line.filterRun < 3 ∧
        (lastPhase n far).line.tracking = .ending ∧ 10 ≤ (lastPhase n far).line.phase ∧
        (lastPhase n far).line.phase < 15) ∧
      ((lastPhase 15 .rest).line.phase = 15 ∧ (lastPhase 15 .rest).line.ltx = .rest ∧
        (lastPhase 15 .rest).line.accepted = .rest) ∧
      ((lastPhase 15 .drive).line.far = .drive ∧ (lastPhase 15 .drive).line.accepted = .rest ∧
        (lastPhase 15 .drive).line.filterRun = 2) := by decide +kernel

/-- The key cell, the length cell at 40, the last CRC cell of a body of 40 octets, and its end bit. -/
theorem witness_SentCellIsReadBack :
    (∀ octets ∈ [[], [0x64], 0x64 :: 40 :: List.replicate 41 0],
      let s := { hosted with line := { hosted.line with rx := some (partlyRead octets) } }
      s.line.tracking = .frame ∧ s.outbound.onLine = none ∧ (partlyRead octets).cell = [] ∧
        (partlyRead octets).position = 10 * (partlyRead octets).octets.length) ∧
      ([0x64#8, 40#8].getD 1 0).toNat ≤ 40 ∧
      (0x64#8 :: 40#8 :: List.replicate 41 0).length < 4 + ((0x64#8 :: 40#8 :: List.replicate 41 0).getD 1 0).toNat ∧
      ∀ octets ∈ [[0x64, 0], 0x64 :: 40 :: List.replicate 41 0],
        let x := { partlyRead octets with position := 10 * octets.length + 9, cell := List.replicate 9 false }
        2 ≤ x.octets.length ∧ x.octets.length < 4 + (x.octets.getD 1 0).toNat ∧
          x.position = 10 * x.octets.length + 9 := by
  decide +kernel

/-- The station's own CLAIM read back as it is sent; a data bit; a position of the frame sent, and one of a receiver. -/
theorem witness_SentCellIsReadBack_sender :
    (∀ n ∈ [0, 1, 2, 6],
      let octets := claiming.outbound.sending.take n
      let s := { claiming with line := { claiming.line with rx := some (partlyRead octets) } }
      s.line.tracking = .frame ∧ s.outbound.onLine ≠ none ∧ (partlyRead octets).cell = [] ∧
        (partlyRead octets).position = 10 * (partlyRead octets).octets.length ∧
        (n = 1 → (s.outbound.sending.getD 1 0).toNat ≤ 40) ∧ (2 ≤ n → n < 4 + (octets.getD 1 0).toNat) ∧
        s.station.mayDrive = true ∧ s.line.condition = .normal ∧
        (partlyRead octets).position < 10 * s.outbound.sending.length) ∧
      (∀ n ∈ [1, 8], let x : Rx := { Rx.opened with position := n }
        1 ≤ x.position % 10 ∧ x.position % 10 ≤ 8 ∧ x.position < x.cellBits) ∧
      (hosted.outbound.onLine = none ∧ (partlyRead [0x64]).position < (partlyRead [0x64]).cellBits) := by
  decide +kernel

/-- A JOIN frame of this station's cell read to its last CRC cell: the roll-call comes next. -/
def cellsRead : Rx :=
  { Rx.opened with position := 90, octets := [0x44, 5] ++ hosted.config.joinBody false ++ [0, 0] }

theorem witness_PhasesAfterTheCells :
    let s := { hosted with line := { hosted.line with rx := some cellsRead } }
    (s.line.tracking = .frame ∧ 2 ≤ cellsRead.octets.length ∧ 4 ≤ s.rosterSlots ∧ s.rosterSlots ≤ 32 ∧
      cellsRead.position = 10 * (4 + (cellsRead.octets.getD 1 0).toNat) ∧ cellsRead.rollCall = [] ∧
      cellsRead.standing = [] ∧ (List.replicate 8 Level.drive).length = s.rosterSlots ∧
      cellsRead.cells.frameClass = 2) ∧
      (s.station = .synced ∧ s.line.condition = .normal ∧ s.own < s.rosterSlots ∧ s.outbound.onLine = none) ∧
      (∀ n ∈ [90 + 1 + 3, 90 + 1 + 8, 90 + 2 + 8, 90 + 4 + 8 + 3, 90],
        10 * (4 + (cellsRead.octets.getD 1 0).toNat) ≤ ({ cellsRead with position := n } : Rx).position) := by
  decide +kernel

/-- The end bit of the second CRC cell, the last roll-call slot and the second verdict bit of that frame and of a PULSE. -/
theorem witness_PhasesAfterTheCells_judged :
    (let x := { cellsRead with position := 89, octets := cellsRead.octets.take 8 }
     2 ≤ x.octets.length ∧ x.position = 10 * (4 + (x.octets.getD 1 0).toNat) - 1 ∧
      x.octets.length + 1 = 4 + (x.octets.getD 1 0).toNat ∧ (judged hosted).judgement = some Judgement.opened ∧
      (judged hosted).outbound.onLine = none ∧ (judged hosted).line.tracking = .frame) ∧
      ((List.range 32).filter cellsRead.rollCall.contains = cellsRead.rollCall ∧
        ({ cellsRead with position := 98 } : Rx).position =
          10 * (4 + (cellsRead.octets.getD 1 0).toNat) + hosted.rosterSlots) ∧
      (({ cellsRead with position := 100 } : Rx).position =
          10 * (4 + (cellsRead.octets.getD 1 0).toNat) + 2 + hosted.rosterSlots) ∧
      (let x := { Rx.opened with position := 50, octets := [0xC4, 0, 0, 0] }
       2 ≤ x.octets.length ∧ x.position = 10 * (4 + (x.octets.getD 1 0).toNat) + 2 + hosted.rosterSlots ∧
        x.cells.frameClass ≠ 2) := by decide +kernel

/-- A station in QUIET with quiet time 12 and no entry. -/
def emptyQuiet : State :=
  { quietStation with outbound := Outbound.reset, line := { quietStation.line with quiet := 12 } }

theorem witness_FrameStartFixesTheFrame :
    (hosted.line.tracking ≠ .quiet ∧ hosted.line.tracking ≠ .ending) ∧ (lastPhase 10 .rest).line.tracking = .ending ∧
      (quietStation.line.tracking = .quiet ∧ quietStation.line.quiet ≤ 11) ∧
      (emptyQuiet.line.tracking = .quiet ∧ emptyQuiet.line.quiet ≤ 12 ∧
        ({ emptyQuiet with line := { emptyQuiet.line with quiet := 12 } } : State).chosen = none) ∧
      (quietStation.line.quiet ≤ 40 ∧
        ({ quietStation with line := { quietStation.line with quiet := 40 } } : State).chosen =
          some (Entry.fresh (.claim 1))) := by decide +kernel

theorem witness_KeyMarkOpensTheFrame :
    (hosted.line.tracking ≠ .quiet ∧ hosted.line.tracking ≠ .ending) ∧ (lastPhase 10 .rest).line.tracking = .ending ∧
      quietStation.line.tracking = .quiet ∧ quietStation.line.quiet ≤ 11 ∧ quietStation.line.quiet ≤ 40 := by
  decide +kernel

theorem witness_ArbitrationLossUncounted :
    hosted.outbound.onLine = none ∧
      (claiming.line.tracking = .frame ∧ claiming.outbound.onLine = some ⟨.claim 1, 0, true, false⟩) ∧
      (dropWanting.line.tracking = .frame ∧ dropWanting.outbound.onLine = some ⟨.claim 1, 0, true, true⟩ ∧
        ∀ k, EntryKind.claim 1 = .claim k → (dropWanting.slotAt k).dropWanted = true) ∧
      ((sending .leave 0 true hosted).outbound.onLine = some ⟨.leave, 0, true, true⟩ ∧
        ∀ k, EntryKind.leave = .claim k → ((sending .leave 0 true hosted).slotAt k).dropWanted = false) := by
  refine ⟨by decide +kernel, by decide +kernel, ⟨by decide +kernel, by decide +kernel, ?_⟩, by decide +kernel, nofun⟩
  intro k hk; cases hk; decide +kernel

/-- The own CLAIM, key 0xA3, length 3, at the first and the last data bit of the key, both sent REST. -/
theorem witness_ArbitrationLossUncounted_bit :
    ∀ n ∈ [1, 8],
      let x : Rx := { Rx.opened with position := n }
      let s := { claiming with line := { claiming.line with rx := some x } }
      s.line.tracking = .frame ∧ s.outbound.onLine = some ⟨.claim 1, 0, true, false⟩ ∧ s.line.rx = some x ∧
        1 ≤ x.position ∧ x.position ≤ 8 ∧ sentLevel s.outbound.sending x.position = .rest := by decide +kernel

/-- The own CLAIM at a data bit of its length cell that is sent REST, and at the end bits of its first body cell and of its
last CRC cell. -/
theorem witness_BitErrorCountsTheAttempt_bit :
    ∀ n ∈ [17, 18, 29, 69],
      let x : Rx := { Rx.opened with position := n, octets := claiming.outbound.sending.take (n / 10) }
      let s := { claiming with line := { claiming.line with rx := some x } }
      holds s = true ∧ s.line.tracking = .frame ∧ s.outbound.onLine = some ⟨.claim 1, 0, true, false⟩ ∧
        10 ≤ x.position ∧ x.position < x.cellBits ∧ x.position < 10 * s.outbound.sending.length ∧
        sentLevel s.outbound.sending x.position = .rest ∧
        (n ≤ 18 → 1 ≤ x.position % 10 ∧ x.position % 10 ≤ 8) ∧
        (29 ≤ n → x.position % 10 = 9 ∧ 20 ≤ x.position ∧ x.octets.length = x.position / 10) := by decide +kernel

/-- The own CLAIM, its length read as 7 for 3: the end bit after its last CRC cell, and the last bit but one it reads on. -/
theorem witness_BitErrorCountsTheAttempt_beyond :
    ∀ n ∈ [79, 108],
      let x : Rx := { Rx.opened with
        position := n, octets := [0xA3, 7] ++ List.replicate (n / 10 - 2) 0 }
      let s := { claiming with line := { claiming.line with rx := some x } }
      holds s = true ∧ s.outbound.onLine = some ⟨.claim 1, 0, true, false⟩ ∧ 10 * s.outbound.sending.length = 70 ∧
        10 ≤ x.position ∧ 20 ≤ x.position ∧ x.position + 1 < x.cellBits ∧ x.position % 10 ≠ 0 := by decide +kernel

theorem witness_BitErrorCountsTheAttempt :
    ((sending (.claim 1) 4 false hosted).Inv ∧ 4 + 1 < (sending (.claim 1) 4 false hosted).retryLimit) ∧
      ((sending (.claim 1) 5 false hosted).Inv ∧ 5 + 1 = (sending (.claim 1) 5 false hosted).retryLimit) ∧
      ((sending (.join true) 5 false (station .syncing 3 [3, 5])).Inv ∧
        5 + 1 = (sending (.join true) 5 false (station .syncing 3 [3, 5])).retryLimit) ∧
      (dropWanting.Inv ∧ dropWanting.outbound.onLine = some ⟨.claim 1, 0, true, true⟩ ∧
        (dropWanting.slotAt 1).dropWanted = true) ∧
      ((sending .leave 0 true hosted).Inv ∧
        (sending .leave 0 true hosted).outbound.onLine = some ⟨.leave, 0, true, true⟩) :=
  ⟨⟨holds_sound (by decide +kernel), by decide +kernel⟩, ⟨holds_sound (by decide +kernel), by decide +kernel⟩,
    ⟨holds_sound (by decide +kernel), by decide +kernel⟩, ⟨holds_sound (by decide +kernel), by decide +kernel⟩,
    holds_sound (by decide +kernel), by decide +kernel⟩

/-- The key mark, the marks of the length cell and of the second CRC cell, the end bits of the key and length cells, and a
length of 41. -/
theorem witness_BrokenOffFrameRecovers_bit :
    (∀ n ∈ [0, 9, 10, 19, 60],
      let x : Rx := { Rx.opened with position := n, octets := claiming.outbound.sending.take (n / 10) }
      let s := { hosted with line := { hosted.line with rx := some x } }
      s.line.tracking = .frame ∧ s.line.rx = some x ∧ x.position < x.cellBits) ∧
      (let x : Rx := { Rx.opened with position := 19, octets := [0x64], cell := octetBits 41 }
       x.position < x.cellBits ∧ 40 < (octetOfBits x.cell).toNat) := by decide +kernel

theorem witness_BrokenOffFrameRecovers :
    (quietStation.Inv ∧ quietStation.line.tracking ≠ .frame) ∧
      (hosted.Inv ∧ hosted.line.tracking = .frame ∧ hosted.outbound.onLine = none) ∧
      (dropWanting.Inv ∧ dropWanting.outbound.onLine = some ⟨.claim 1, 0, true, true⟩ ∧
        (dropWanting.slotAt 1).dropWanted = true) ∧
      ((sending (.claim 1) 4 false hosted).Inv ∧
        (sending (.claim 1) 4 false hosted).outbound.onLine = some ⟨.claim 1, 4, true, false⟩ ∧
        4 + 1 < (sending (.claim 1) 4 false hosted).retryLimit) ∧
      ((sending (.claim 1) 5 false hosted).Inv ∧
        (sending (.claim 1) 5 false hosted).outbound.onLine = some ⟨.claim 1, 5, true, false⟩ ∧
        5 + 1 = (sending (.claim 1) 5 false hosted).retryLimit) ∧
      ((sending (.join true) 5 false (station .syncing 3 [3, 5])).Inv ∧
        5 + 1 = (sending (.join true) 5 false (station .syncing 3 [3, 5])).retryLimit) :=
  ⟨⟨holds_sound (by decide +kernel), by decide +kernel⟩, ⟨hosted_inv, by decide +kernel⟩,
    ⟨holds_sound (by decide +kernel), by decide +kernel⟩, ⟨holds_sound (by decide +kernel), by decide +kernel⟩,
    ⟨holds_sound (by decide +kernel), by decide +kernel⟩, holds_sound (by decide +kernel), by decide +kernel⟩

/-- A frame under this station's number comes from another while it is following one, and while its own CLAIM, under
another key, is on the line. -/
theorem witness_ClashHaltsTheStation :
    (hosted.line.tracking = .frame ∧ hosted.station = .synced ∧ (framed 3 6 []).sender = hosted.own ∧
      hosted.ownAttempt (framed 3 6 []) = false ∧ (framed 3 6 []).reception = .good ∧ hosted.outbound.onLine = none) ∧
      (claiming.line.tracking = .frame ∧ claiming.station = .synced ∧ claiming.ownAttempt (framed 3 6 []) = false ∧
        claiming.OutboundFits ∧ claiming.outbound.onLine ≠ none) ∧
      (let s := after .bitError (judged claiming)
       s.line.tracking = .frame ∧ s.station = .synced ∧ (framed 4 6 []).reception = .good ∧
        s.ownAttempt (framed 4 6 []) = false ∧ s.judgement = some { Judgement.opened with abandoned := true }) ∧
      ((judged claiming).judgement ≠ none ∧ (judged claiming).outbound.onLine = some ⟨.claim 1, 0, true, false⟩ ∧
        (judged claiming).OutboundFits ∧ 0 + 1 < (judged claiming).retryLimit) ∧
      ((framed 4 6 []).sender ≠ hosted.own ∧ hosted.judgement = none) := by decide +kernel

/-- `hosted` with this level accepted, and the line's condition. -/
def lineAt (x : Level) (c : LineCondition) : State :=
  { hosted with line := { hosted.line with accepted := x, condition := c } }

theorem witness_LineConditionChanges :
    (hosted.OutboundFits ∧ hosted.SlotsFit ∧ hosted.line.sampling = true ∧ hosted.line.condition = .normal ∧
      ∀ e ∈ hosted.outbound.entries, e.withdrawn = false) ∧
      (dropWanting.OutboundFits ∧ dropWanting.SlotsFit ∧ dropWanting.line.sampling = true ∧
        dropWanting.line.condition = .normal ∧ ⟨.claim 1, 0, true, true⟩ ∈ dropWanting.outbound.entries ∧
        (dropWanting.slotAt 1).dropWanted = true) ∧
      ((after .stuck hosted).OutboundFits ∧ (after .stuck hosted).SlotsFit ∧
        (after .stuck hosted).line.condition = .stuck) ∧
      ((lineAt .drive .normal).OutboundFits ∧ (lineAt .drive .normal).SlotsFit ∧
        (lineAt .drive .normal).line.sampling = true ∧ (lineAt .drive .normal).line.driveRun = 0) ∧
      (∀ x ∈ [Level.rest, .drive],
        (lineAt x .stuck).OutboundFits ∧ (lineAt x .stuck).SlotsFit ∧ (lineAt x .stuck).line.restRun = 0) :=
  ⟨by decide +kernel, by decide +kernel, by decide +kernel, by decide +kernel, by decide +kernel⟩

theorem witness_FrameAwareAndRoundGap :
    let s := after .start State.reset
    (s.line.tracking = .recovering ∧ s.line.condition = .normal ∧ s.station = .listen ∧ s.line.accepted = .rest ∧
      s.line.recoverRun = 0 ∧ ∀ e ∈ s.outbound.entries, e.kind.isJoin = false) ∧
      (let u := after (.frameBrokenOff .markRest) hosted
       u.line.tracking = .recovering ∧ u.station ≠ .listen ∧ u.line.driveRun < 47) ∧
      (hosted.line.tracking ≠ .recovering ∧ hosted.line.tracking ≠ .quiet ∧ hosted.line.tracking ≠ .ending) ∧
      (quietStation.line.tracking = .quiet ∧ quietStation.line.condition = .normal ∧
        quietStation.line.accepted = .rest ∧ quietStation.line.quiet < 40) ∧
      (lastPhase 10 .rest).line.tracking = .ending := by
  decide +kernel

/-! ### Deadlines -/

theorem witness_DeadlinesEnterTheirEntries :
    ((timed hosted).lease.leaseOf 4 = .running 1 ∧ (timed hosted).station = .synced ∧
      (timed hosted).census.joiners = []) ∧
      ((timed (station .syncing 3 [3, 4])).lease.leaseOf 4 = .running 1 ∧
        (timed (station .syncing 3 [3, 4])).station ≠ .synced) ∧
      (∀ n, guarded.lease.leaseOf 4 ≠ .running n) ∧
      ((timed hosted).lease.pulse = .running 1 ∧ ∀ n, hosted.lease.pulse ≠ .running n) ∧
      ((timed (station .syncing 3 [3, 4])).lease.window = .running 1 ∧
        (timed (station .syncing 3 [3, 4])).station = .syncing) ∧ ∀ n, hosted.lease.window ≠ .running n := by
  have h : guarded.lease.leaseOf 4 = .inactive := by decide +kernel
  refine ⟨by decide +kernel, by decide +kernel, ?_, ⟨by decide +kernel, nofun⟩, by decide +kernel, nofun⟩
  simp [h]

theorem witness_FenceWithdrawsTheGrants :
    (guarded.table.Distinct ∧ guarded.slots.length = 8 ∧ guarded.lease.selfGuard = .running 1) ∧
      (hosted.table.Distinct ∧ hosted.slots.length = 8 ∧ ∀ n, hosted.lease.selfGuard ≠ .running n) :=
  ⟨by decide +kernel, by decide +kernel, by decide +kernel, nofun⟩

/-! ### Frame ends -/

theorem witness_FrameEndClosesTheFrame :
    quietStation.line.tracking ≠ .frame ∧ hosted.Inv ∧ hosted.line.tracking = .frame ∧
      ((station .halted 3 [3]).line.tracking = .frame ∧ (station .halted 3 [3]).outbound.onLine = none ∧
        (station .halted 3 [3]).station = .halted) ∧
      ((station .joining 3 []).station = .joining ∧ (station .joining 3 []).HearsOther (takenBy [3] (framed 4 6 []))) :=
  ⟨by decide +kernel, hosted_inv, by decide +kernel⟩

/-- What the other members of `hosted` send. -/
def peerFrame (frameClass : Nat) (body : List Byte) : FrameObs :=
  takenBy [1, 2, 3, 4, 6] (framed 4 frameClass body)

/-- Station 3 SYNCING, station 5 synced and designated, census part 0 due. -/
def syncing : State :=
  let s := station .syncing 3 [3, 5]
  { s with
    roster := { s.roster with synced := [5] }
    census := { Census.cleared with joiners := [3], designated := some 5 } }

theorem witness_TakenPulseOnlyRenews :
    (hosted.Inv ∧ hosted.station = .synced ∧ hosted.HearsTaken (peerFrame 6 []) .pulse ∧
      hosted.HearsPeer (peerFrame 6 [])) ∧
      (let s := sending .pulse 0 false hosted
       s.Inv ∧ s.station = .synced ∧ s.HearsTaken (ownTaken s .pulse) .pulse ∧ s.HearsOwn (ownTaken s .pulse) .pulse) ∧
      (let obs := takenBy [3, 5] (framed 5 6 [])
       syncing.Inv ∧ syncing.station = .syncing ∧ syncing.HearsTaken obs .pulse ∧ syncing.HearsPeer obs) :=
  ⟨⟨hosted_inv, by decide +kernel⟩, ⟨holds_sound (by decide +kernel), by decide +kernel⟩,
    holds_sound (by decide +kernel), by decide +kernel⟩

theorem witness_TakenClaimIsPlaced :
    (hosted.Inv ∧ hosted.station = .synced ∧ hosted.HearsTaken (peerFrame 5 [7, 1, 15]) (.claim 7 .shared [15]) ∧
      hosted.HearsPeer (peerFrame 5 [7, 1, 15])) ∧
      (claiming.Inv ∧ claiming.HearsTaken (ownTaken claiming (.claim 1)) (.claim 1 .exclusive [1]) ∧
        claiming.HearsOwn (ownTaken claiming (.claim 1)) (.claim 1) ∧ (claiming.slotAt 1).state = .queued ∧
        (claiming.slotAt 1).dropWanted = false) ∧
      (dropWanting.Inv ∧ dropWanting.HearsTaken (ownTaken dropWanting (.claim 1)) (.claim 1 .exclusive [1]) ∧
        dropWanting.HearsOwn (ownTaken dropWanting (.claim 1)) (.claim 1) ∧ (dropWanting.slotAt 1).dropWanted = true ∧
        dropWanting.table.judgeClaim dropWanting.own 1 .exclusive [1] = .granted) :=
  ⟨⟨hosted_inv, by decide +kernel⟩, ⟨holds_sound (by decide +kernel), by decide +kernel⟩,
    holds_sound (by decide +kernel), by decide +kernel⟩

/-- A drop-wanted CLAIM whose tag the table holds already. -/
def doomedClaim : State :=
  let s := { exampleStation with
    slots := exampleStation.slots.set 0 { slotWith .queued .shared [7] with dropWanted := true } }
  sending (.claim 0) 0 true s

theorem witness_TakenClaimIsPlaced_refused :
    doomedClaim.Inv ∧ doomedClaim.HearsTaken (ownTaken doomedClaim (.claim 0)) (.claim 0 .shared [7]) ∧
      doomedClaim.HearsOwn (ownTaken doomedClaim (.claim 0)) (.claim 0) ∧ (doomedClaim.slotAt 0).dropWanted = true ∧
      doomedClaim.table.judgeClaim doomedClaim.own 0 .shared [7] = .refused .tagInUse :=
  ⟨holds_sound (by decide +kernel), by decide +kernel⟩

theorem witness_TakenDropRemovesTheRecord :
    (hosted.Inv ∧ hosted.HearsTaken (peerFrame 4 [1]) (.drop 1) ∧ hosted.HearsPeer (peerFrame 4 [1])) ∧
      (let s := sending (.drop 3) 0 false hosted
       s.Inv ∧ s.HearsTaken (ownTaken s (.drop 3)) (.drop 3) ∧ s.HearsOwn (ownTaken s (.drop 3)) (.drop 3) ∧
        (s.slotAt 3).state = .releasing) :=
  ⟨⟨hosted_inv, by decide +kernel⟩, holds_sound (by decide +kernel), by decide +kernel⟩

theorem witness_TakenExpireRemovesTheTarget :
    (hosted.Inv ∧ hosted.HearsTaken (peerFrame 0 [2]) (.expire 2) ∧ hosted.HearsPeer (peerFrame 0 [2])) ∧
      (hosted.HearsTaken (peerFrame 0 [3]) (.expire 3) ∧ 3 = hosted.own) ∧
      (let s := sending (.expire 2) 0 false hosted
       s.Inv ∧ s.HearsTaken (ownTaken s (.expire 2)) (.expire 2) ∧ s.HearsOwn (ownTaken s (.expire 2)) (.expire 2)) :=
  ⟨⟨hosted_inv, by decide +kernel⟩, by decide +kernel, holds_sound (by decide +kernel), by decide +kernel⟩

theorem witness_OwnLeaveParksTheStation :
    let s := sending .leave 0 false hosted
    s.Inv ∧ s.station = .synced ∧ s.HearsTaken (ownTaken s .leave) .leave ∧ s.HearsOwn (ownTaken s .leave) .leave :=
  ⟨holds_sound (by decide +kernel), by decide +kernel⟩

/-- A SYNCED member outside the freeze; a SYNCING one, whose verdict samples were disturbed. -/
theorem witness_TakenLeaveRemovesThePeer :
    (hosted.Inv ∧ hosted.station = .synced ∧ hosted.census.joiners = [] ∧ hosted.HearsTaken (peerFrame 1 []) .leave ∧
      hosted.HearsPeer (peerFrame 1 [])) ∧
      (let obs := takenBy [3, 5] (framed 5 1 [])
       syncing.Inv ∧ syncing.station = .syncing ∧ syncing.HearsTaken obs .leave ∧ syncing.HearsPeer obs ∧
        syncing.census.joiners ≠ []) :=
  ⟨⟨hosted_inv, by decide +kernel⟩, holds_sound (by decide +kernel), by decide +kernel⟩

/-- A JOIN body of the stations' configuration. -/
def joinBody (pass : Bool) : List Byte :=
  hosted.config.joinBody pass

theorem witness_TakenJoinBringsTheFreeze :
    (let obs := { peerFrame 2 (joinBody false) with standing := [1, 2, 3, 6] }
     hosted.Inv ∧ hosted.HearsTaken obs (.join false) ∧ hosted.HearsPeer obs ∧ obs.cells.sender ∉ obs.standing) ∧
      (let obs := { takenBy [3, 5] (framed 7 2 (joinBody true)) with standing := [5] }
       syncing.Inv ∧ syncing.station = .syncing ∧ syncing.HearsTaken obs (.join true) ∧ syncing.HearsPeer obs ∧
        obs.cells.sender ∉ obs.standing) ∧
      (let s := sending (.join true) 0 false syncing
       let obs := { ownTaken s (.join true) with standing := [5] }
       s.Inv ∧ s.station = .syncing ∧ s.HearsTaken obs (.join true) ∧ s.HearsOwn obs (.join true) ∧
        obs.cells.sender ∉ obs.standing) :=
  ⟨⟨hosted_inv, by decide +kernel⟩, ⟨holds_sound (by decide +kernel), by decide +kernel⟩,
    holds_sound (by decide +kernel), by decide +kernel⟩

/-- Station 3 JOINING, its JOIN on the line. -/
def joining : State :=
  sending (.join false) 0 false (station .joining 3 [])

theorem witness_OwnJoinTakenEntersTheCell :
    joining.Inv ∧ joining.station = .joining ∧ joining.line.tracking = .frame ∧
      (let obs := takenBy [3] (ownCells joining (.join false))
       obs.taken = true ∧ joining.AttemptRuns obs (.join false) ∧
        (List.range 32).filter (fun j => j == joining.own || obs.rollCall.contains j) = [joining.own]) ∧
      (let obs := { takenBy [3, 5] (ownCells joining (.join false)) with standing := [5] }
       obs.taken = true ∧ joining.AttemptRuns obs (.join false) ∧
        (List.range 32).filter (fun j => j == joining.own || obs.rollCall.contains j) ≠ [joining.own]) ∧
      joining.AttemptRuns (takenBy [3, 5] (misread joining (.join false))) (.join false) :=
  ⟨holds_sound (by decide +kernel), by decide +kernel⟩

/-- A CENSUS part from station 5 with no record, for one joiner, station 3. -/
def censusFrame (index count : Byte) : FrameObs :=
  takenBy [3, 5] (framed 5 3 ([0, 1, index, count, 0] ++ bitmapOctets [3]))

/-- Part 0 of two with four records. -/
def firstPart : FrameObs :=
  takenBy [3, 5] (framed 5 3 ([0, 1, 0, 2, 4] ++ bitmapOctets [3] ++
    ([0x28, 0x29, 0x2A, 0x2B].map fun k => [k, 0x41, 7, 0xFF, 0xFF, 0xFF]).flatten))

/-- Station 5, SYNCED and designated, its CENSUS part 0 on the line. -/
def censusSender : State :=
  let s := station .synced 5 [3, 5]
  sending (.census 0) 0 false { s with
    roster := { s.roster with synced := [5] }
    census := { Census.cleared with joiners := [3], designated := some 5 } }

theorem witness_TakenCensusPartAdvances :
    (syncing.Inv ∧ syncing.station = .syncing ∧
      syncing.HearsTaken (censusFrame 0 1) (.census ⟨1, 0, 1, [3], []⟩) ∧ syncing.HearsPeer (censusFrame 0 1)) ∧
      (syncing.HearsPeer firstPart ∧ syncing.HearsTaken firstPart (.census ⟨1, 0, 2, [3],
        [⟨5, 0, .shared, [7], .granted⟩, ⟨5, 1, .shared, [7], .granted⟩, ⟨5, 2, .shared, [7], .granted⟩,
         ⟨5, 3, .shared, [7], .granted⟩]⟩)) ∧
      (censusSender.Inv ∧ censusSender.station = .synced ∧
        censusSender.HearsTaken (ownTaken censusSender (.census 0)) (.census ⟨1, 0, 1, [3], []⟩) ∧
        censusSender.HearsOwn (ownTaken censusSender (.census 0)) (.census 0)) :=
  ⟨⟨holds_sound (by decide +kernel), by decide +kernel⟩, by decide +kernel, holds_sound (by decide +kernel),
    by decide +kernel⟩

/-- A member of station 3's cell one miss short of E. -/
def oneShort (k : Nat) (s : State) : State :=
  { s with roster := { s.roster with
      members := s.roster.members.map fun m => if m.number = k then { m with misses := 2 } else m } }

/-- Station 6 of `hosted` owed a census, station 1 designated. -/
def frozen (s : State) : State :=
  { s with
    roster := { s.roster with synced := [1, 2, 3, 4] }
    census := { Census.cleared with joiners := [6], designated := some 1 } }

theorem witness_VoidFrameEndCountsMisses :
    let obs := voidWith [1, 3, 4, 6] (framed 4 6 [])
    obs.taken = false ∧
      (hosted.Inv ∧ hosted.HearsOther obs ∧ hosted.reachingE obs.rollCall = []) ∧
      (let s := after .bitError (judged claiming)
       s.Inv ∧ s.HearsOther (voidWith [1, 2, 4, 6] { ownCells hosted (.claim 1) with crcLow := 0 }) ∧
        s.reachingE [1, 2, 4, 6] = []) ∧
      ((oneShort 2 hosted).Inv ∧ (oneShort 2 hosted).reachingE obs.rollCall = [2] ∧
        (oneShort 2 hosted).census.joiners = []) ∧
      ((oneShort 2 (frozen hosted)).Inv ∧ (oneShort 2 (frozen hosted)).HearsOther obs ∧
        (oneShort 2 (frozen hosted)).reachingE obs.rollCall = [2] ∧ 6 ∈ (oneShort 2 (frozen hosted)).census.joiners) ∧
      ((oneShort 6 (frozen hosted)).Inv ∧ (oneShort 6 (frozen hosted)).reachingE [1, 2, 3, 4] = [6] ∧
        (oneShort 6 (frozen hosted)).census.joiners = [6]) ∧
      (let s := oneShort 5 syncing
       let obs := voidWith [3] (framed 5 6 [])
       s.Inv ∧ s.station = .syncing ∧ s.HearsOther obs ∧ s.reachingE obs.rollCall = [5] ∧ s.census.joiners = [3]) :=
  ⟨by decide +kernel, ⟨hosted_inv, by decide +kernel⟩, ⟨holds_sound (by decide +kernel), by decide +kernel⟩,
    ⟨holds_sound (by decide +kernel), by decide +kernel⟩, ⟨holds_sound (by decide +kernel), by decide +kernel⟩, ⟨holds_sound (by decide +kernel), by decide +kernel⟩,
    holds_sound (by decide +kernel), by decide +kernel⟩

/-- A SYNCING station that a disturbed sample left outside the joiners set (log 36), its window reached, the only joiner one
miss short of E. -/
def strayed : State :=
  let s := station .syncing 3 [3, 5, 6]
  oneShort 6 { s with
    roster := { s.roster with synced := [3, 5] }
    lease := { s.lease with window := .reached }
    census := { Census.cleared with joiners := [6], designated := some 5 } }

/-- R93: the eviction of the last joiner at such a station, by another's frame and by its own JOIN with PASS. -/
theorem witness_VoidFrameEndCountsMisses_last :
    (let obs := voidWith [3, 5] (framed 5 6 [])
     strayed.Inv ∧ strayed.HearsOther obs ∧ strayed.reachingE obs.rollCall = [6] ∧ strayed.census.joiners = [6]) ∧
      (let s := sending (.join true) 5 false strayed
       let obs := voidWith [3, 5] (ownCells s (.join true))
       s.Inv ∧ s.AttemptRuns obs (.join true) ∧ s.reachingE obs.rollCall = [6] ∧
        s.mootAtVoid [6] (.join true) = true) :=
  ⟨⟨holds_sound (by decide +kernel), by decide +kernel⟩, holds_sound (by decide +kernel), by decide +kernel⟩

/-- R76, R94: the end of the census at an eviction renews the census window of a station that stays SYNCING and withdraws
its JOIN with PASS, so that this attempt, the T-th, does not halt it. -/
theorem test_last_eviction_renews :
    let s := sending (.join true) 5 false strayed
    let t := after (.frameEnd (voidWith [3, 5] (ownCells s (.join true)))) s
    t.station = .syncing ∧ t.lease.window = .running 500 ∧ t.census.joiners = [] ∧ t.outbound.entries = [] := by
  decide +kernel

/-- The own miss count comes to E. -/
theorem witness_OwnTroubleAtVoidFrameEnd :
    let obs := voidWith [1, 2, 4, 6] (framed 4 6 [])
    obs.taken = false ∧ (oneShort 3 hosted).Inv ∧ (oneShort 3 hosted).HearsOther obs ∧
      (oneShort 3 hosted).own ∈ (oneShort 3 hosted).reachingE obs.rollCall :=
  ⟨by decide +kernel, holds_sound (by decide +kernel), by decide +kernel⟩

/-- The station's own attempt with this entry ends VOID, everyone having acked it. -/
def ownVoid (k : EntryKind) (retries : Nat) (withdrawn : Bool) (s : State) : Bool :=
  let t := sending k retries withdrawn s
  let obs := voidWith s.roster.roster (ownCells s k)
  holds t && decide (t.line.tracking = .frame ∧ obs.taken = false ∧
    t.outbound.onLine = some ⟨k, retries, true, withdrawn⟩ ∧ t.AttemptRuns obs k ∧ t.reachingE obs.rollCall = [])

/-- Own attempts of every kind: below the limit, at it, with their records gone, and with a withdrawal waiting. -/
theorem witness_OwnTroubleAtVoidFrameEnd_own :
    (∀ n ∈ [4, 5], ownVoid (.claim 1) n false hosted = true ∧ ownVoid (.drop 3) n false hosted = true ∧
      ownVoid (.join true) n false syncing = true ∧ ownVoid (.join false) n false (station .joining 3 []) = true ∧
      ownVoid .pulse n false hosted = true ∧ ownVoid (.expire 2) n false hosted = true ∧ n < hosted.retryLimit) ∧
      (hosted.retryLimit = 6 ∧ (∃ r ∈ hosted.table.requests, r.owner = hosted.own) ∧
        ∃ r ∈ hosted.table.requests, r.owner = 2) ∧
      (ownVoid (.expire 5) 0 false hosted = true ∧ ¬∃ r ∈ hosted.table.requests, r.owner = 5) ∧
      (ownVoid .pulse 5 false (station .synced 3 [3, 5]) = true ∧ (station .synced 3 [3, 5]).table.requests = []) ∧
      (ownVoid .leave 0 true hosted = true ∧ ownVoid (.claim 1) 0 true hosted = true ∧
        (hosted.slotAt 1).dropWanted = false) ∧
      (holds dropWanting = true ∧ dropWanting.outbound.onLine = some ⟨.claim 1, 0, true, true⟩ ∧
        dropWanting.AttemptRuns (voidWith [1, 2, 3, 4, 6] (ownCells dropWanting (.claim 1))) (.claim 1) ∧
        (dropWanting.slotAt 1).dropWanted = true) ∧
      (claiming.AttemptRuns (voidWith [1, 2, 3, 4, 6] (misread hosted (.claim 1))) (.claim 1) ∧
        (misread hosted (.claim 1)).sender ≠ claiming.own) := by decide +kernel

/-- Section 11.3: the station's own frame ends VOID and evicts a peer, its entry counted or exhausted by it; a CENSUS part and
a JOIN with PASS whose run the eviction resets; a drop-wanted CLAIM. -/
theorem witness_VoidFrameEndCountsMisses_own :
    let evicting : EntryKind → Nat → Bool → State → Bool := fun k n withdrawn s =>
      let t := oneShort 2 (sending k n withdrawn s)
      let obs := voidWith [1, 3, 4, 6] (ownCells s k)
      holds t && decide (t.line.tracking = .frame ∧ obs.taken = false ∧ t.AttemptRuns obs k ∧
        t.outbound.onLine = some ⟨k, n, true, withdrawn⟩ ∧ t.reachingE obs.rollCall = [2] ∧ t.own ≠ 2)
    (∀ n ∈ [4, 5], evicting .pulse n false hosted = true ∧ evicting (.claim 1) n false hosted = true) ∧
      hosted.mootAtVoid [2] .pulse = false ∧ hosted.mootAtVoid [2] (.claim 1) = false ∧ hosted.retryLimit = 6 ∧
      (evicting (.claim 1) 0 true hosted = true ∧ hosted.AttemptStays [2] ⟨.claim 1, 0, true, true⟩) ∧
      (evicting (.expire 2) 5 false hosted = true ∧ hosted.mootAtVoid [2] (.expire 2) = true) ∧
      (let s := oneShort 7 (sending (.join true) 5 false { station .syncing 3 [3, 5, 7] with
         roster := { (station .syncing 3 [3, 5, 7]).roster with synced := [5, 7] }
         census := { Census.cleared with joiners := [3], designated := some 5 } })
       let obs := voidWith [3, 5] (ownCells s (.join true))
       holds s = true ∧ s.AttemptRuns obs (.join true) ∧ s.reachingE obs.rollCall = [7] ∧
        s.mootAtVoid [7] (.join true) = true) := by decide +kernel

/-- Attempts uncounted because the frame end evicts: an EXPIRE's target, and a peer during an own CENSUS. -/
theorem witness_OwnTroubleAtVoidFrameEnd_evicting :
    (let s := oneShort 2 (sending (.expire 2) 0 false hosted)
     let obs := voidWith [1, 3, 4, 6] (ownCells hosted (.expire 2))
     s.Inv ∧ s.line.tracking = .frame ∧ s.AttemptRuns obs (.expire 2) ∧ s.reachingE obs.rollCall = [2] ∧ s.own ≠ 2) ∧
      (let s := oneShort 3 censusSender
       let obs := voidWith [5] (ownCells censusSender (.census 0))
       s.Inv ∧ s.line.tracking = .frame ∧ s.AttemptRuns obs (.census 0) ∧ s.reachingE obs.rollCall = [3] ∧ s.own ≠ 3 ∧
        s.census.joiners ≠ []) :=
  ⟨⟨holds_sound (by decide +kernel), by decide +kernel⟩, holds_sound (by decide +kernel), by decide +kernel⟩

/-- A peer's frame; the own frame, read as it was sent and with its key misread; a frame received with an error. -/
theorem witness_LeaseUnitAtTakenFrameEnd :
    (hosted.Inv ∧ (peerFrame 6 []).taken = true ∧ (∀ k ∈ hosted.roster.roster, k ∈ (peerFrame 6 []).rollCall) ∧
      hosted.HearsOther (peerFrame 6 []) ∧ (peerFrame 6 []).cells.sender ≠ hosted.own) ∧
      (claiming.Inv ∧ ∀ c ∈ [ownCells hosted (.claim 1), misread hosted (.claim 1)],
        claiming.AttemptRuns (takenBy [1, 2, 3, 4, 6] c) (.claim 1) ∧ claiming.parse c ≠ some .leave) ∧
      (dropWanting.Inv ∧ dropWanting.AttemptRuns (takenBy [1, 2, 3, 4, 6] (framed 3 5 [2, 1, 1])) (.claim 1)) ∧
      hosted.HearsOther (takenBy [1, 2, 3, 4, 6] { framed 3 6 [] with crcLow := 0 }) :=
  ⟨⟨hosted_inv, by decide +kernel⟩, ⟨holds_sound (by decide +kernel), by decide +kernel⟩,
    ⟨holds_sound (by decide +kernel), by decide +kernel⟩, by decide +kernel⟩

/-! ### Steps -/

/-- Every step of this station with one command waiting. -/
theorem step_after (c : Instr) (s : State) : step { s with pending := [c] } = .next (after c { s with pending := [] }) :=
  exec_after c _

/-- A step of a station that takes an undisturbed frame end, its slots, its table and its census state in agreement; it
meets the premises of the last clause of RosterAndCensusKept too. -/
theorem witness_SlotsAgreeWithTheTable :
    let obs := takenBy [1, 2, 3, 4, 6] (framed 2 4 [0])
    let s := { exampleStation with pending := [.frameEnd obs] }
    s.Inv ∧ s.SlotsAgree ∧ s.OwnersAreMembers ∧ s.CensusBounds ∧ step s = .next exampleDropped ∧
      s.SoundStep exampleDropped :=
  ⟨holds_sound (by decide +kernel), by decide +kernel, by decide +kernel, by decide +kernel, by rfl, by
    refine ⟨fun o h => ?_, by decide +kernel⟩
    obtain rfl := Option.some.inj h
    decide +kernel⟩

/-- An own EXPIRE of station 2 on the line, read as it was sent; read as an own DROP it would be no undisturbed frame end. -/
theorem witness_SlotsAgreeWithTheTable_own :
    let s := sending (.expire 2) 0 false exampleStation
    s.Inv ∧ s.SlotsAgree ∧ s.OwnersAreMembers ∧ s.ownAttempt (ownCells s (.expire 2)) = true ∧
      s.SoundEnd (ownTaken s (.expire 2)) ∧ s.ownAttempt (framed 3 4 [0]) = true ∧
      ¬s.SoundEnd (takenBy [1, 2, 3, 4, 6] (framed 3 4 [0])) :=
  ⟨holds_sound (by decide +kernel), by decide +kernel, by decide +kernel, by decide +kernel, by decide +kernel,
    by decide +kernel, by decide +kernel⟩

/-- A JOIN of the highest station, 7, with all its bits but the last read; the bit before it was read DRIVE, the line
rests, and the next sample is the one after this phase. -/
def lastStanding (phase : Nat) : State :=
  let c := framed 7 2 (exampleStation.config.joinBody false)
  let x : Rx := { Rx.opened with
    position := 90 + 3 + 2 * 8, octets := [c.key, c.length] ++ c.body ++ [c.crcHigh, c.crcLow]
    rollCall := [1, 2, 3, 4, 6], standing := [1, 2, 3, 4, 6] }
  { exampleStation with line := { exampleStation.line with
      tracking := .frame, rx := some x, phase := phase, divider := 7, filterRun := 0
      accepted := if phase < 9 then .drive else .rest } }

/-- A step that reads no bit ends no frame, whatever level was accepted for the bit before; the step that reads the last bit
of an undisturbed frame is sound. -/
theorem witness_SlotsAgreeWithTheTable_bit :
    (lastStanding 2).ending (lastStanding 2).clock = none ∧
      (let s := lastStanding 9
       s.Inv ∧ s.SlotsAgree ∧ s.OwnersAreMembers ∧ step s = .next s.clock ∧ s.clock.isMember 7 = true ∧
        (s.ending s.clock).isSome = true ∧ s.SoundStep s.clock) :=
  ⟨by decide +kernel, holds_sound (by decide +kernel), by decide +kernel, by decide +kernel, rfl, by decide +kernel,
    by decide +kernel, by
      obtain ⟨o, ho, hs⟩ : ∃ o, (lastStanding 9).ending (lastStanding 9).clock = some o ∧ (lastStanding 9).SoundEnd o :=
        ⟨((lastStanding 9).ending (lastStanding 9).clock).get (by decide +kernel), by decide +kernel, by decide +kernel⟩
      refine ⟨fun o' h => ?_, by decide +kernel⟩
      obtain rfl := Option.some.inj (ho.symm.trans h)
      exact hs⟩

/-- The hypotheses of TableInvariantKept, SlotsAndPlacesKept, OutboundInvariantKept and RosterAndCensusKept. -/
theorem witness_StepKeepsInvariants :
    ∃ s t : State, s.Inv ∧ step s = .next t ∧ (s.station = .syncing → t.station = .synced → t.table.Wf) :=
  ⟨{ hosted with pending := [.drop 2] }, _, holds_sound (by decide +kernel), step_after _ hosted,
    fun h => absurd h (by decide +kernel)⟩

/-- The last part of an empty census is installed. -/
theorem witness_TableInvariantKept_installed :
    ∃ s t : State, s.Inv ∧ step s = .next t ∧ s.station = .syncing ∧ t.station = .synced ∧ t.table.Wf :=
  ⟨{ syncing with pending := [.frameEnd (censusFrame 0 1)] }, _, holds_sound (by decide +kernel), step_after _ syncing,
    by decide +kernel, by decide +kernel, by decide +kernel⟩

/-- Station 4 of the same cell as `hosted`. -/
def colleague : State :=
  { hosted with
    config := { hosted.config with station := 4 }
    outbound := Outbound.reset
    lease := { hosted.lease with leases := [1, 2, 3, 6].map fun k => ⟨k, .running 1000⟩ } }

theorem witness_StationsStayAgreed :
    hosted.Inv ∧ colleague.Inv ∧ hosted.station = .synced ∧ colleague.station = .synced ∧
      hosted.table = colleague.table ∧ hosted.census = colleague.census ∧ hosted.roster = colleague.roster ∧
      hosted.line.tracking = .frame ∧ colleague.line.tracking = .frame ∧
      (after (.frameEnd (takenBy [1, 2, 3, 4, 6] (framed 1 4 [2]))) hosted).station = .synced ∧
      (after (.frameEnd (takenBy [1, 2, 3, 4, 6] (framed 1 4 [2]))) colleague).station = .synced :=
  ⟨hosted_inv, holds_sound (by decide +kernel), by decide +kernel⟩

end Sys2Proof.Tests
end

section
/-! SUPPORT. The zone table: what a sound table's entries are, and what a removal, a grant, the grant pass, a placement and an
installation do to a sound table (R4 to R18, R26). -/

namespace Sys2Proof.Machine

set_option Elab.async false

/-! ### The entries a request list calls for -/

/-- R6, R7: the entry that a request list calls for in one zone. -/
def entryFor (requests : List Record) (z : Nat) : ZoneEntry :=
  { holders := (requests.filter fun r => r.holdsZone z).map Record.ref
    waiters := (requests.filter fun r => r.waitsFor z).map Record.ref }

theorem entriesFor_eq_map (l : List Record) : entriesFor l = (List.range Config.zoneEntries).map (entryFor l) := rfl

theorem Status.ne_waiting_iff (x : Status) : x ≠ .waiting ↔ x = .granted := by cases x <;> simp

theorem RecordRef.same_iff (a b : RecordRef) : a.same b = true ↔ a.owner = b.owner ∧ a.tag = b.tag := by
  simp [RecordRef.same]

@[simp] theorem Record.ref_owner (r : Record) : r.ref.owner = r.owner := rfl
@[simp] theorem Record.ref_tag (r : Record) : r.ref.tag = r.tag := rfl
@[simp] theorem Record.ref_mode (r : Record) : r.ref.mode = r.mode := rfl

/-- The entry of a zone in a table whose entries are those its request list calls for. -/
theorem Table.zoneAt_eq {t : Table} (h : t.zones = entriesFor t.requests) (z : Nat) :
    t.zoneAt z = if z < Config.zoneEntries then entryFor t.requests z else ZoneEntry.empty := by
  by_cases hz : z < Config.zoneEntries <;>
    simp [Table.zoneAt, h, entriesFor_eq_map, List.getD_eq_getElem?_getD, hz]

/-- A record that does not name a zone is not in its entry. -/
theorem entryFor_cons_of_notMem (r : Record) (l : List Record) (z : Nat) (h : z ∉ r.zones) :
    entryFor (r :: l) z = entryFor l z := by
  simp [entryFor, Record.holdsZone, Record.waitsFor, h]

theorem entryFor_append (l m : List Record) (z : Nat) :
    entryFor (l ++ m) z = { holders := (entryFor l z).holders ++ (entryFor m z).holders
                            waiters := (entryFor l z).waiters ++ (entryFor m z).waiters } := by
  simp [entryFor]

/-- R6: a record stands in one list of the entry of each zone of its set, by its status. -/
theorem entryFor_singleton (r : Record) (z : Nat) :
    entryFor [r] z =
      if z ∈ r.zones then
        if r.status = .granted then { holders := [r.ref], waiters := [] } else { holders := [], waiters := [r.ref] }
      else ZoneEntry.empty := by
  by_cases hz : z ∈ r.zones <;> cases hs : r.status <;>
    simp [entryFor, ZoneEntry.empty, Record.holdsZone, Record.waitsFor, hz, hs]

theorem mem_entryFor_waiters {l : List Record} {z : Nat} {w : RecordRef} :
    w ∈ (entryFor l z).waiters ↔ ∃ a ∈ l, a.status = .waiting ∧ z ∈ a.zones ∧ a.ref = w := by
  simp [entryFor, Record.waitsFor, and_assoc]

theorem mem_entryFor_holders {l : List Record} {z : Nat} {w : RecordRef} :
    w ∈ (entryFor l z).holders ↔ ∃ a ∈ l, a.status = .granted ∧ z ∈ a.zones ∧ a.ref = w := by
  simp [entryFor, Record.holdsZone, and_assoc]

/-- The table after one change in each of several zones. -/
theorem Table.foldl_updateZone_getElem? (f : ZoneEntry → ZoneEntry) (zs : List Nat) (t : Table) (i : Nat) (h : zs.Nodup) :
    (zs.foldl (fun u z => u.updateZone z f) t).zones[i]? = (t.zones[i]?).map (if i ∈ zs then f else id) := by
  induction zs generalizing t with
  | nil => simp
  | cons z zs ih =>
    obtain ⟨hz, hzs⟩ := List.nodup_cons.mp h
    rw [List.foldl_cons, ih _ hzs]
    simp only [Table.updateZone, updateAt, List.getElem?_modify, Option.map_eq_map]
    by_cases e : z = i
    · subst e; simp [hz]
    · simp [e, Ne.symm e]

/-- The entries after such changes are those of another request list, where each zone's are. -/
theorem Table.foldl_updateZone_entriesFor (f : ZoneEntry → ZoneEntry) (zs : List Nat) (t : Table) (l l' : List Record)
    (h : zs.Nodup) (ht : t.zones = entriesFor l)
    (hl : ∀ z, entryFor l' z = if z ∈ zs then f (entryFor l z) else entryFor l z) :
    (zs.foldl (fun u z => u.updateZone z f) t).zones = entriesFor l' := by
  apply List.ext_getElem?
  intro i
  rw [Table.foldl_updateZone_getElem? f zs t i h, ht, entriesFor_eq_map, entriesFor_eq_map]
  by_cases hi : i < Config.zoneEntries
  · by_cases e : i ∈ zs <;> simp [hi, hl, e]
  · simp [hi]

/-! ### Removal (R14) -/

theorem entryFor_filter (p : Nat → Nat → Bool) (l : List Record) (z : Nat) :
    entryFor (l.filter fun r => p r.owner r.tag) z =
      { holders := (entryFor l z).holders.filter fun h => p h.owner h.tag
        waiters := (entryFor l z).waiters.filter fun w => p w.owner w.tag } := by
  simp [entryFor, List.filter_map, List.filter_filter, Function.comp_def, Bool.and_comm]

/-- R4: an entry keeps within its capacity when holders and waiters leave it. -/
theorem ZoneEntry.Capacity.of_sublist {e e' : ZoneEntry} (h : e.Capacity) (hh : e'.holders.Sublist e.holders)
    (hw : e'.waiters.Sublist e.waiters) : e'.Capacity := by
  obtain ⟨kinds, count, queue⟩ := h
  exact ⟨kinds.imp (le_trans hh.length_le) (fun a x hx => a x (hh.subset hx)), le_trans hh.length_le count,
    le_trans hw.length_le queue⟩

/-- R14: a removal leaves a sound table. -/
theorem Table.Sound.remove {t : Table} (h : t.Sound) (gone : Nat → Nat → Bool) : (t.remove gone).Sound := by
  obtain ⟨fits, distinct, count, zones, oldest, capacity⟩ := h
  have sub : (t.remove gone).requests.Sublist t.requests := List.filter_sublist
  refine ⟨fun r hr => fits r (sub.subset hr), distinct.sublist (sub.map _), le_trans sub.length_le count, ?_,
    List.Pairwise.sublist sub oldest, ?_⟩
  · simp only [Table.remove, zones, entriesFor_eq_map, List.map_map]
    refine List.map_congr_left fun z _ => ?_
    exact (entryFor_filter (fun o k => !gone o k) t.requests z).symm
  · intro e he
    simp only [Table.remove, List.mem_map] at he
    obtain ⟨e, he, rfl⟩ := he
    exact (capacity e he).of_sublist List.filter_sublist List.filter_sublist

theorem Table.remove_cleared (gone : Nat → Nat → Bool) : Table.cleared.remove gone = Table.cleared := by
  simp [Table.remove, Table.cleared, ZoneEntry.empty]

/-! ### The grant of one record (R11) -/

/-- R11: a record that has been granted. -/
def Record.afterGrant (r : Record) : Record :=
  { r with status := .granted }

@[simp] theorem Record.afterGrant_ref (r : Record) : r.afterGrant.ref = r.ref := rfl
@[simp] theorem Record.afterGrant_zones (r : Record) : r.afterGrant.zones = r.zones := rfl
@[simp] theorem Record.afterGrant_status (r : Record) : r.afterGrant.status = .granted := rfl
@[simp] theorem Record.afterGrant_owner (r : Record) : r.afterGrant.owner = r.owner := rfl
@[simp] theorem Record.afterGrant_tag (r : Record) : r.afterGrant.tag = r.tag := rfl

/-- R2: the other records of a table with distinct pairs do not bear the pair of a record. -/
theorem Table.Distinct.same_false {t : Table} (h : t.Distinct) {pre suf : List Record} {r : Record}
    (hr : t.requests = pre ++ r :: suf) : ∀ a ∈ pre ++ suf, a.ref.same r.ref = false := by
  intro a ha
  have nd : ((pre ++ r :: suf).map fun r => (r.owner, r.tag)).Nodup := hr ▸ h
  rw [List.map_append, List.map_cons, List.nodup_middle, List.nodup_cons, ← List.map_append] at nd
  refine Bool.eq_false_iff.mpr fun same => nd.1 ?_
  obtain ⟨owner, tag⟩ := (RecordRef.same_iff _ _).mp same
  exact List.mem_map.mpr ⟨a, ha, Prod.ext owner tag⟩

theorem Table.grant_requests {t : Table} (h : t.Distinct) {pre suf : List Record} {r : Record}
    (hr : t.requests = pre ++ r :: suf) : (t.grant r).requests = pre ++ r.afterGrant :: suf := by
  have other := h.same_false hr
  have keep : ∀ l : List Record, (∀ a ∈ l, a.ref.same r.ref = false) →
      l.map (fun q => if q.ref.same r.ref then { q with status := .granted } else q) = l := by
    intro l hl
    exact (List.map_congr_left fun a ha => by simp [hl a ha]).trans l.map_id
  simp only [Table.grant, hr, List.map_append, List.map_cons]
  rw [keep pre fun a ha => other a (by simp [ha]), keep suf fun a ha => other a (by simp [ha])]
  simp [RecordRef.same, Record.afterGrant]

/-- R10: grantable, with the entries read from the request list. -/
theorem Table.Sound.grantable_iff {t : Table} (h : t.Sound) {r : Record} (hr : r ∈ t.requests) :
    t.grantable r = true ↔ r.status = .waiting ∧ ∀ z ∈ r.zones,
      (∃ head rest, (entryFor t.requests z).waiters = head :: rest ∧ head.same r.ref = true) ∧
        (entryFor t.requests z).compatible r.mode = true := by
  obtain ⟨fits, -, -, zones, -, -⟩ := h
  simp only [Table.grantable, Bool.and_eq_true, beq_iff_eq, List.all_eq_true]
  refine and_congr_right fun _ => forall₂_congr fun z hz => ?_
  have inside : z < Config.zoneEntries := (fits r hr).2.2.2.2.2 z hz
  simp only [Table.grantableIn, Table.zoneAt_eq zones, if_pos inside, Bool.and_eq_true, Record.ref_mode]
  refine and_congr_left fun _ => ?_
  cases (entryFor t.requests z).waiters <;> simp

/-- R10: a zone's entry grants a record: the record is the head of its queue, and compatible. -/
def ZoneEntry.grants (e : ZoneEntry) (r : RecordRef) : Bool :=
  (e.waiters.head?.any fun w => w.same r) && e.compatible r.mode

theorem Table.grantableIn_eq (t : Table) (r : RecordRef) (z : Nat) : t.grantableIn r z = (t.zoneAt z).grants r := by
  unfold Table.grantableIn ZoneEntry.grants
  cases (t.zoneAt z).waiters <;> rfl

/-- R18: a record that enters a queue behind others changes nothing for those. -/
theorem ZoneEntry.grants_addWaiter {e : ZoneEntry} {q r : RecordRef} (h : e.waiters ≠ []) :
    (e.addWaiter q).grants r = e.grants r := by
  obtain ⟨head, rest, queue⟩ := List.exists_cons_of_ne_nil h
  simp [ZoneEntry.grants, ZoneEntry.addWaiter, ZoneEntry.compatible, queue]

/-- R10: whether a record is grantable depends on the entries of its own zones alone. -/
theorem Table.grantable_congr {t u : Table} {r : Record} (h : ∀ z ∈ r.zones, t.zoneAt z = u.zoneAt z) :
    t.grantable r = u.grantable r := by
  unfold Table.grantable
  have each : ∀ z ∈ r.zones, t.grantableIn r.ref z = u.grantableIn r.ref z := fun z hz => by
    simp only [Table.grantableIn, h z hz]
  have : (r.zones.all fun z => t.grantableIn r.ref z) = r.zones.all fun z => u.grantableIn r.ref z := by
    rw [Bool.eq_iff_iff, List.all_eq_true, List.all_eq_true]
    exact forall₂_congr fun z hz => by rw [each z hz]
  rw [this]

/-- R7, R10: where a record is grantable, no older record waits for one of its zones. -/
theorem Table.Sound.no_older_waiter {t : Table} (h : t.Sound) {pre suf : List Record} {r : Record}
    (hr : t.requests = pre ++ r :: suf) (g : t.grantable r = true) :
    ∀ a ∈ pre, a.status = .waiting → ∀ z ∈ a.zones, z ∉ r.zones := by
  intro a ha waits z hza hzr
  have mem : r ∈ t.requests := by simp [hr]
  obtain ⟨⟨head, rest, queue, same⟩, -⟩ := ((h.grantable_iff mem).mp g).2 z hzr
  rw [hr, entryFor_append] at queue
  have : a.ref ∈ (entryFor pre z).waiters := mem_entryFor_waiters.mpr ⟨a, ha, waits, hza, rfl⟩
  cases older : (entryFor pre z).waiters with
  | nil => simp [older] at this
  | cons w ws =>
    simp only [older, List.cons_append, List.cons.injEq] at queue
    obtain ⟨b, hb, -, -, rfl⟩ := mem_entryFor_waiters.mp (older ▸ List.mem_cons_self : w ∈ (entryFor pre z).waiters)
    have other := h.2.1.same_false hr b (by simp [hb])
    rw [queue.1, same] at other
    contradiction

/-- R11: what the grant of a record does to the entry of one of its zones is what its new status calls for. -/
theorem Table.Sound.entryFor_grant {t : Table} (h : t.Sound) {pre suf : List Record} {r : Record}
    (hr : t.requests = pre ++ r :: suf) (waits : r.status = .waiting) (z : Nat) :
    entryFor (pre ++ r.afterGrant :: suf) z =
      if z ∈ r.zones then (entryFor t.requests z).grant r.ref else entryFor t.requests z := by
  have other := h.2.1.same_false hr
  have oldest : (pre ++ r :: suf).Pairwise
      fun a b => (∃ z ∈ a.zones, z ∈ b.zones) → a.status = .waiting → b.status = .waiting := hr ▸ h.2.2.2.2.1
  have middle : ∀ q : Record, pre ++ q :: suf = pre ++ ([q] ++ suf) := fun q => rfl
  rw [hr, middle r, middle r.afterGrant]
  by_cases hz : z ∈ r.zones
  · have younger : (entryFor suf z).holders = [] := by
      refine List.eq_nil_iff_forall_not_mem.mpr fun w hw => ?_
      obtain ⟨a, ha, granted, hza, -⟩ := mem_entryFor_holders.mp hw
      have := (List.pairwise_cons.mp (List.pairwise_append.mp oldest).2.1).1 a ha ⟨z, hz, hza⟩ waits
      simp [granted] at this
    have keep : ∀ l : List Record, (∀ a ∈ l, a.ref.same r.ref = false) →
        (entryFor l z).waiters.filter (fun w => !w.same r.ref) = (entryFor l z).waiters := by
      intro l hl
      refine List.filter_eq_self.mpr fun w hw => ?_
      obtain ⟨a, ha, -, -, rfl⟩ := mem_entryFor_waiters.mp hw
      simp [hl a ha]
    simp only [entryFor_append, entryFor_singleton, Record.afterGrant_zones, Record.afterGrant_status, hz, waits, younger,
      if_true, ZoneEntry.grant, List.filter_append, Record.afterGrant_ref,
      keep pre fun a ha => other a (by simp [ha]), keep suf fun a ha => other a (by simp [ha])]
    simp [RecordRef.same]
  · simp [entryFor_append, entryFor_cons_of_notMem, hz]

/-- R4, R10: a compatible record fits into the holders of a zone. -/
theorem ZoneEntry.Capacity.addHolder {e : ZoneEntry} (h : e.Capacity) {r : RecordRef} (hc : e.compatible r.mode = true) :
    (e.addHolder r).Capacity := by
  obtain ⟨-, -, queue⟩ := h
  simp only [ZoneEntry.compatible, Bool.or_eq_true, List.isEmpty_iff, Bool.and_eq_true, beq_iff_eq, List.all_eq_true,
    decide_eq_true_eq] at hc
  refine ⟨?_, ?_, queue⟩ <;> simp only [ZoneEntry.addHolder, List.length_append, List.length_singleton]
  · refine hc.imp (fun none => by simp [none]) fun ⟨⟨mode, all⟩, _⟩ x hx => ?_
    rcases List.mem_append.mp hx with hx | hx
    · exact all x hx
    · rw [List.mem_singleton.mp hx, mode]
  · rcases hc with none | ⟨-, few⟩
    · simp [none]
    · exact few

theorem ZoneEntry.Capacity.grant {e : ZoneEntry} (h : e.Capacity) {r : RecordRef} (hc : e.compatible r.mode = true) :
    (e.grant r).Capacity :=
  (h.addHolder hc).of_sublist (List.Sublist.refl _) List.filter_sublist

theorem entryFor_capacity_iff (l : List Record) :
    (∀ e ∈ entriesFor l, e.Capacity) ↔ ∀ z, z < Config.zoneEntries → (entryFor l z).Capacity := by
  simp only [entriesFor_eq_map, List.forall_mem_map, List.mem_range]

/-- R11: the entries after the grant of a record are those that the new request list calls for. -/
theorem Table.Sound.grant_zones {t : Table} (h : t.Sound) {pre suf : List Record} {r : Record}
    (hr : t.requests = pre ++ r :: suf) (waits : r.status = .waiting) :
    (t.grant r).zones = entriesFor (pre ++ r.afterGrant :: suf) := by
  have nodup := (h.1 r (by simp [hr])).2.2.2.2.1
  exact Table.foldl_updateZone_entriesFor (fun e => e.grant r.ref) r.zones t t.requests _ nodup h.2.2.2.1
    (h.entryFor_grant hr waits)

/-- R11: the grant of a grantable record leaves a sound table. -/
theorem Table.Sound.grant {t : Table} (h : t.Sound) {pre suf : List Record} {r : Record}
    (hr : t.requests = pre ++ r :: suf) (g : t.grantable r = true) : (t.grant r).Sound := by
  have older := h.no_older_waiter hr g
  obtain ⟨waits, each⟩ := (h.grantable_iff (by simp [hr] : r ∈ t.requests)).mp g
  have zones := h.grant_zones hr waits
  have entry := h.entryFor_grant hr waits
  obtain ⟨fits, distinct, count, zonesBefore, oldest, capacity⟩ := h
  have requests := Table.grant_requests distinct hr
  rw [zonesBefore, entryFor_capacity_iff] at capacity
  rw [Table.Distinct, hr] at distinct
  rw [hr] at fits count
  rw [Table.OldestFirst, hr, List.pairwise_append, List.pairwise_cons] at oldest
  obtain ⟨inPre, ⟨-, inSuf⟩, across⟩ := oldest
  refine ⟨?_, ?_, ?_, requests ▸ zones, ?_, ?_⟩
  · rw [requests]
    intro a ha
    rcases List.mem_append.mp ha with ha | ha
    · exact fits a (by simp [ha])
    · rcases List.mem_cons.mp ha with rfl | ha
      · exact fits r (by simp)
      · exact fits a (by simp [ha])
  · simpa [Table.Distinct, requests] using distinct
  · simpa [requests] using count
  · rw [Table.OldestFirst, requests, List.pairwise_append, List.pairwise_cons]
    refine ⟨inPre, ⟨fun b _ _ w => by simp at w, inSuf⟩, fun a ha b hb => ?_⟩
    rcases List.mem_cons.mp hb with rfl | hb
    · exact fun ⟨z, hza, hzr⟩ w => absurd hzr (older a ha w z hza)
    · exact across a ha b (by simp [hb])
  · rw [zones, entryFor_capacity_iff]
    intro z hz
    rw [entry z]
    split
    · rename_i mem; exact (capacity z hz).grant (each z mem).2
    · exact capacity z hz

/-- R11: the grant of a record leaves the entries of all zones outside its set. -/
theorem Table.Sound.zoneAt_grant_of_notMem {t : Table} (h : t.Sound) {pre suf : List Record} {r : Record}
    (hr : t.requests = pre ++ r :: suf) (waits : r.status = .waiting) {z : Nat} (hz : z ∉ r.zones) :
    (t.grant r).zoneAt z = t.zoneAt z := by
  have requests := Table.grant_requests h.2.1 hr
  have zones : (t.grant r).zones = entriesFor (t.grant r).requests := requests ▸ h.grant_zones hr waits
  rw [Table.zoneAt_eq zones, Table.zoneAt_eq h.2.2.2.1, requests, h.entryFor_grant hr waits z, if_neg hz]

/-! ### The grant pass (R11, R12) -/

/-- R11: what a grant pass can make of a record: nothing, or granted where it waited. -/
def Record.MayTurnGranted (a b : Record) : Prop :=
  b = a ∨ (a.status = .waiting ∧ b = a.afterGrant)

/-- R15: the records whose status a pass changed, oldest first. -/
def grantedBetween (before after : List Record) : List RecordRef :=
  ((before.zip after).filter fun p => p.1.status == .waiting && p.2.status == .granted).map fun p => p.1.ref

/-- R11, R12: the visits of the records from a place in the request list on, where no record before that place is
grantable. -/
theorem Table.Sound.visits {t : Table} (h : t.Sound) (pre suf : List Record) (g : List RecordRef)
    (hr : t.requests = pre ++ suf) (settled : ∀ a ∈ pre, t.grantable a = false) :
    ∃ suf', ∃ u : Table, (suf.filter fun r => r.status == .waiting).foldl Table.visit (t, g) =
        (u, g ++ grantedBetween suf suf') ∧
      u.requests = pre ++ suf' ∧ u.Wf ∧ List.Forall₂ Record.MayTurnGranted suf suf' := by
  induction suf generalizing t pre g with
  | nil =>
    refine ⟨[], t, by simp [grantedBetween], hr, ⟨h, fun r hm => settled r ?_⟩, .nil⟩
    simpa [hr] using hm
  | cons r suf ih =>
    by_cases visited : t.grantable r = true
    · have waits : r.status = .waiting := ((h.grantable_iff (by simp [hr])).mp visited).1
      have still : ∀ a ∈ pre ++ [r.afterGrant], (t.grant r).grantable a = false := by
        intro a ha
        rcases List.mem_append.mp ha with ha | ha
        · cases w : a.status with
          | granted => simp [Table.grantable, w]
          | waiting =>
            rw [Table.grantable_congr fun z hz =>
              h.zoneAt_grant_of_notMem hr waits (h.no_older_waiter hr visited a ha w z hz)]
            exact settled a ha
        · simp [List.mem_singleton.mp ha, Table.grantable]
      obtain ⟨suf', u, run, requests, wf, turned⟩ := ih (h.grant hr visited) (pre ++ [r.afterGrant]) (g ++ [r.ref])
        (by rw [Table.grant_requests h.2.1 hr]; simp) still
      refine ⟨r.afterGrant :: suf', u, ?_, by simp [requests], wf, .cons (.inr ⟨waits, rfl⟩) turned⟩
      simp [waits, Table.visit, visited, run, grantedBetween]
    · have kept : (List.filter (fun r => r.status == .waiting) (r :: suf)).foldl Table.visit (t, g) =
          (List.filter (fun r => r.status == .waiting) suf).foldl Table.visit (t, g) := by
        cases w : r.status <;> simp [w, Table.visit, visited]
      have still : ∀ a ∈ pre ++ [r], t.grantable a = false := by
        intro a ha
        rcases List.mem_append.mp ha with ha | ha
        · exact settled a ha
        · rw [List.mem_singleton.mp ha]; simpa using visited
      obtain ⟨suf', u, run, requests, wf, turned⟩ := ih h (pre ++ [r]) g (by simp [hr]) still
      refine ⟨r :: suf', u, ?_, by simp [requests], wf, .cons (.inl rfl) turned⟩
      rw [kept, run]
      cases w : r.status <;> simp [grantedBetween, w]

/-- R11, R12, R15: the grant pass over a sound table. -/
theorem Table.Sound.grantPass {t : Table} (h : t.Sound) :
    t.grantPass.1.Wf ∧ List.Forall₂ Record.MayTurnGranted t.requests t.grantPass.1.requests ∧
      t.grantPass.2 = grantedBetween t.requests t.grantPass.1.requests := by
  obtain ⟨suf', u, run, requests, wf, turned⟩ := h.visits [] t.requests [] rfl (by simp)
  simp only [List.nil_append] at run requests
  rw [Table.grantPass, run]
  exact ⟨wf, requests ▸ turned, by simp [requests]⟩

/-- R12: the grant pass grants nothing where nothing is grantable. -/
theorem Table.grantPass_of_noneGrantable {t : Table} (h : t.NoneGrantable) : t.grantPass = (t, []) := by
  have idle : ∀ l : List Record, (∀ r ∈ l, t.grantable r = false) → l.foldl Table.visit (t, []) = (t, []) := by
    intro l hl
    induction l with
    | nil => rfl
    | cons r l ih =>
      rw [List.foldl_cons, Table.visit, hl r (by simp), if_neg (by simp), ih fun q hq => hl q (by simp [hq])]
  exact idle _ fun r hr => h r (List.mem_filter.mp hr).1

theorem Table.grantPass_cleared : Table.cleared.grantPass = (Table.cleared, []) :=
  Table.grantPass_of_noneGrantable (by simp [Table.NoneGrantable, Table.cleared])

/-! ### Placement and installation (R16 to R18, R26) -/

/-- R17, R18: a record entered at the end of the request list. -/
theorem entryFor_concat (l : List Record) (r : Record) (z : Nat) :
    entryFor (l ++ [r]) z =
      if z ∈ r.zones then
        if r.status = .granted then (entryFor l z).addHolder r.ref else (entryFor l z).addWaiter r.ref
      else entryFor l z := by
  by_cases hz : z ∈ r.zones <;> by_cases hs : r.status = .granted <;>
    simp [entryFor_append, entryFor_singleton, hz, hs, ZoneEntry.addHolder, ZoneEntry.addWaiter, ZoneEntry.empty]

/-- R6, R17, R18: appending a record keeps the entries those that the request list calls for. -/
theorem Table.append_zones {t : Table} (h : t.zones = entriesFor t.requests) {r : Record} (nodup : r.zones.Nodup) :
    (t.append r).zones = entriesFor (t.append r).requests := by
  refine Table.foldl_updateZone_entriesFor
    (fun e => if r.status = .granted then e.addHolder r.ref else e.addWaiter r.ref) r.zones t t.requests _ nodup h ?_
  intro z
  rw [Table.append_requests, entryFor_concat]

/-- R26: records appended one after another to a table. -/
theorem Table.foldl_append (l : List Record) (t : Table) (h : t.zones = entriesFor t.requests)
    (nodup : ∀ r ∈ l, r.zones.Nodup) :
    (l.foldl Table.append t).requests = t.requests ++ l ∧
      (l.foldl Table.append t).zones = entriesFor (t.requests ++ l) := by
  induction l generalizing t with
  | nil => simpa using h
  | cons r l ih =>
    obtain ⟨requests, zones⟩ := ih (t.append r) (Table.append_zones h (nodup r (by simp))) fun a ha => nodup a (by simp [ha])
    simp [requests, zones]

theorem Table.cleared_zones : Table.cleared.zones = entriesFor Table.cleared.requests := by decide +kernel

/-- R2: a pair that no record bears. -/
theorem Table.find_none_iff (t : Table) (owner tag : Nat) :
    t.find owner tag = none ↔ ∀ r ∈ t.requests, ¬(r.owner = owner ∧ r.tag = tag) := by
  simp [Table.find]

/-- R16 to R18: appending a record leaves a sound table where its pair is new, there is room, and each of its zones takes
it by its status. -/
theorem Table.Sound.append {t : Table} (h : t.Sound) {r : Record} (fits : r.Fits)
    (new : t.find r.owner r.tag = none) (room : t.requests.length < Config.maxRecords)
    (held : r.status = .granted → ∀ z ∈ r.zones, (t.zoneAt z).waiters = [] ∧ (t.zoneAt z).compatible r.mode = true)
    (queued : r.status = .waiting → ∀ z ∈ r.zones, (t.zoneAt z).waiters.length < Config.maxWaiters) :
    (t.append r).Sound := by
  obtain ⟨allFit, distinct, count, zones, oldest, capacity⟩ := h
  have inside : ∀ z ∈ r.zones, z < Config.zoneEntries := fits.2.2.2.2.2
  refine ⟨?_, ?_, ?_, Table.append_zones zones fits.2.2.2.2.1, ?_, ?_⟩
  · intro a ha
    rcases List.mem_append.mp ha with ha | ha
    · exact allFit a ha
    · exact List.mem_singleton.mp ha ▸ fits
  · rw [Table.Distinct, Table.append_requests, List.map_append, List.map_singleton, ← List.concat_eq_append,
      List.nodup_concat]
    refine ⟨fun mem => ?_, distinct⟩
    obtain ⟨a, ha, pair⟩ := List.mem_map.mp mem
    exact (Table.find_none_iff _ _ _).mp new a ha (Prod.mk.inj pair)
  · simpa using room
  · rw [Table.OldestFirst, Table.append_requests, List.pairwise_append]
    refine ⟨oldest, List.pairwise_singleton _ _, fun a ha b hb => ?_⟩
    rw [List.mem_singleton.mp hb]
    rintro ⟨z, hza, hzr⟩ waits
    by_contra granted
    have none_waits := (held ((Status.ne_waiting_iff _).mp granted) z hzr).1
    rw [Table.zoneAt_eq zones, if_pos (inside z hzr)] at none_waits
    have : a.ref ∈ (entryFor t.requests z).waiters := mem_entryFor_waiters.mpr ⟨a, ha, waits, hza, rfl⟩
    simp [none_waits] at this
  · rw [zones, entryFor_capacity_iff] at capacity
    rw [Table.append_zones zones fits.2.2.2.2.1, entryFor_capacity_iff]
    intro z hz
    rw [Table.append_requests, entryFor_concat]
    split
    · rename_i mem
      split
      · rename_i granted
        have takes := (held granted z mem).2
        rw [Table.zoneAt_eq zones, if_pos hz] at takes
        exact (capacity z hz).addHolder takes
      · rename_i waits
        have short := queued (by cases w : r.status <;> simp_all) z mem
        rw [Table.zoneAt_eq zones, if_pos hz] at short
        obtain ⟨kinds, few, -⟩ := capacity z hz
        exact ⟨kinds, few, by simpa [ZoneEntry.addWaiter] using short⟩
    · exact capacity z hz

/-- R1: the record that a CLAIM of these fields would enter. -/
abbrev claimRecord (owner tag : Nat) (m : Mode) (zones : List Nat) (x : Status) : Record :=
  { owner := owner, tag := tag, mode := m, zones := zones, status := x }

/-- R17: every zone of a set takes a record of this mode at once. -/
abbrev Table.AllFree (t : Table) (m : Mode) (zones : List Nat) : Prop :=
  ∀ z ∈ zones, (t.zoneAt z).waiters = [] ∧ (t.zoneAt z).compatible m = true

/-- R18: the waiter queue of some zone of a set is full. -/
abbrev Table.QueueFull (t : Table) (zones : List Nat) : Prop :=
  ∃ z ∈ zones, Config.maxWaiters ≤ (t.zoneAt z).waiters.length

/-- R16 to R18: the outcome of a CLAIM, check by check. -/
theorem Table.judgeClaim_eq (t : Table) (owner tag : Nat) (m : Mode) (zones : List Nat) :
    t.judgeClaim owner tag m zones =
      if t.find owner tag ≠ none then .refused .tagInUse
      else if Config.maxRecords ≤ t.requests.length then .refused .recordsFull
      else if t.AllFree m zones then .granted
      else if t.QueueFull zones then .refused .queueFull
      else .waiting := by
  have free_iff : (zones.all fun z => (t.zoneAt z).waiters.isEmpty && (t.zoneAt z).compatible m) = true ↔
      t.AllFree m zones := by simp [Table.AllFree]
  have full_iff : (zones.any fun z => decide (Config.maxWaiters ≤ (t.zoneAt z).waiters.length)) = true ↔
      t.QueueFull zones := by simp [Table.QueueFull]
  simp only [Table.judgeClaim, free_iff, full_iff, Option.isSome_iff_ne_none]

section
variable {t : Table} {owner tag : Nat} {m : Mode} {zones : List Nat}

theorem Table.judgeClaim_of_inUse (inUse : t.find owner tag ≠ none) :
    t.judgeClaim owner tag m zones = .refused .tagInUse := by
  rw [Table.judgeClaim_eq, if_pos inUse]

theorem Table.judgeClaim_of_full (new : t.find owner tag = none) (full : Config.maxRecords ≤ t.requests.length) :
    t.judgeClaim owner tag m zones = .refused .recordsFull := by
  rw [Table.judgeClaim_eq, if_neg (not_not.mpr new), if_pos full]

theorem Table.judgeClaim_of_free (new : t.find owner tag = none) (room : ¬Config.maxRecords ≤ t.requests.length)
    (free : t.AllFree m zones) : t.judgeClaim owner tag m zones = .granted := by
  rw [Table.judgeClaim_eq, if_neg (not_not.mpr new), if_neg room, if_pos free]

theorem Table.judgeClaim_of_queueFull (new : t.find owner tag = none) (room : ¬Config.maxRecords ≤ t.requests.length)
    (busy : ¬t.AllFree m zones) (full : t.QueueFull zones) :
    t.judgeClaim owner tag m zones = .refused .queueFull := by
  rw [Table.judgeClaim_eq, if_neg (not_not.mpr new), if_neg room, if_neg busy, if_pos full]

theorem Table.judgeClaim_of_short (new : t.find owner tag = none) (room : ¬Config.maxRecords ≤ t.requests.length)
    (busy : ¬t.AllFree m zones) (short : ¬t.QueueFull zones) : t.judgeClaim owner tag m zones = .waiting := by
  rw [Table.judgeClaim_eq, if_neg (not_not.mpr new), if_neg room, if_neg busy, if_neg short]

end

/-- R12: after an entry that leaves the waiting records' zones with the holders and the queue heads they had, the records
that stood are no more grantable than before. -/
theorem Table.Wf.append_old {t : Table} (h : t.Wf) {r : Record} (nodup : r.zones.Nodup)
    (held : r.status = .granted → ∀ z ∈ r.zones, (t.zoneAt z).waiters = []) :
    ∀ a ∈ t.requests, (t.append r).grantable a = false := by
  intro a ha
  obtain ⟨sound, none_grantable⟩ := h
  obtain ⟨fits, -, -, zones, -, -⟩ := sound
  cases w : a.status with
  | granted => simp [Table.grantable, w]
  | waiting =>
    rw [← none_grantable a ha]
    unfold Table.grantable
    have each : ∀ z ∈ a.zones, (t.append r).grantableIn a.ref z = t.grantableIn a.ref z := by
      intro z hz
      have inside : z < Config.zoneEntries := (fits a ha).2.2.2.2.2 z hz
      have waits : a.ref ∈ (entryFor t.requests z).waiters := mem_entryFor_waiters.mpr ⟨a, ha, w, hz, rfl⟩
      have before := Table.zoneAt_eq zones z
      rw [if_pos inside] at before
      have after := Table.zoneAt_eq (Table.append_zones zones nodup) z
      rw [if_pos inside, Table.append_requests, entryFor_concat] at after
      rw [Table.grantableIn_eq, Table.grantableIn_eq, before, after]
      split
      · rename_i mem
        split
        · rename_i granted
          have := held granted z mem
          rw [before] at this
          simp [this] at waits
        · exact ZoneEntry.grants_addWaiter (List.ne_nil_of_mem waits)
      · rfl
    have : (a.zones.all fun z => (t.append r).grantableIn a.ref z) = a.zones.all fun z => t.grantableIn a.ref z := by
      rw [Bool.eq_iff_iff, List.all_eq_true, List.all_eq_true]
      exact forall₂_congr fun z hz => by rw [each z hz]
    rw [this]

/-- R18: a record that entered the queues because some zone did not take it is not grantable. -/
theorem Table.Wf.append_new {t : Table} (h : t.Wf) {r : Record} (fits : r.Fits) (waits : r.status = .waiting)
    (new : t.find r.owner r.tag = none) (free : ¬t.AllFree r.mode r.zones) : (t.append r).grantable r = false := by
  obtain ⟨⟨-, -, -, zones, -, -⟩, -⟩ := h
  simp only [Table.AllFree, not_forall] at free
  obtain ⟨z, hz, busy⟩ := free
  have inside : z < Config.zoneEntries := fits.2.2.2.2.2 z hz
  have before := Table.zoneAt_eq zones z
  have after := Table.zoneAt_eq (Table.append_zones zones fits.2.2.2.2.1) z
  rw [if_pos inside] at before after
  rw [Table.append_requests, entryFor_concat, if_pos hz, if_neg (by simp [waits])] at after
  rw [before] at busy
  have refused : (t.append r).grantableIn r.ref z = false := by
    rw [Table.grantableIn_eq, after]
    cases q : (entryFor t.requests z).waiters with
    | nil =>
      have : (entryFor t.requests z).compatible r.mode = false := by simpa [q] using busy
      exact Bool.and_eq_false_imp.mpr fun _ => this
    | cons head rest =>
      obtain ⟨a, ha, -, -, rfl⟩ := mem_entryFor_waiters.mp (q ▸ List.mem_cons_self : head ∈ (entryFor t.requests z).waiters)
      have other := (Table.find_none_iff _ _ _).mp new a ha
      have : a.ref.same r.ref = false := Bool.eq_false_iff.mpr fun e => other ((RecordRef.same_iff _ _).mp e)
      simp [ZoneEntry.grants, ZoneEntry.addWaiter, q, this]
  simp only [Table.grantable, waits, beq_self_eq_true, Bool.true_and]
  exact List.all_eq_false.mpr ⟨z, hz, by simp [refused]⟩

/-- R16 to R18: a placement leaves a well-formed table. -/
theorem Table.Wf.place {t : Table} (h : t.Wf) {owner tag : Nat} {m : Mode} {zones : List Nat}
    (fits : ∀ x, (claimRecord owner tag m zones x).Fits) : (t.place owner tag m zones).Wf := by
  have settled : ∀ x, (t.append (claimRecord owner tag m zones x)).Sound →
      (x = .granted → ∀ z ∈ zones, (t.zoneAt z).waiters = []) →
      (t.append (claimRecord owner tag m zones x)).grantable (claimRecord owner tag m zones x) = false →
      (t.append (claimRecord owner tag m zones x)).Wf := by
    intro x sound held new
    refine ⟨sound, fun a ha => ?_⟩
    rcases List.mem_append.mp ha with ha | ha
    · exact h.append_old (fits x).2.2.2.2.1 held a ha
    · exact List.mem_singleton.mp ha ▸ new
  have refused : ∀ r, t.judgeClaim owner tag m zones = .refused r → (t.place owner tag m zones).Wf := fun r j => by
    rw [Table.place, j]; exact h
  by_cases inUse : t.find owner tag = none
  case neg => exact refused _ (Table.judgeClaim_of_inUse inUse)
  by_cases full : Config.maxRecords ≤ t.requests.length
  case pos => exact refused _ (Table.judgeClaim_of_full inUse full)
  have room := Nat.lt_of_not_le full
  by_cases free : t.AllFree m zones
  case pos =>
    rw [Table.place, Table.judgeClaim_of_free inUse full free]
    exact settled .granted (h.1.append (fits _) inUse room (fun _ => free) (by simp)) (fun _ z hz => (free z hz).1)
      (by simp [Table.grantable])
  by_cases queueFull : t.QueueFull zones
  case pos => exact refused _ (Table.judgeClaim_of_queueFull inUse full free queueFull)
  rw [Table.place, Table.judgeClaim_of_short inUse full free queueFull]
  refine settled .waiting (h.1.append (fits _) inUse room (by simp) fun _ z hz => ?_) (by simp)
    (h.append_new (fits _) rfl inUse free)
  exact Nat.lt_of_not_le fun long => queueFull ⟨z, hz, long⟩

@[simp] theorem Table.place_sequence (t : Table) (owner tag : Nat) (m : Mode) (zones : List Nat) :
    (t.place owner tag m zones).sequence = t.sequence := by
  obtain ⟨_, -, h⟩ | ⟨-, h⟩ | ⟨-, h⟩ := t.place_cases owner tag m zones <;> rw [h] <;> rfl

/-! ### The sequence number (R8)

Nothing the table does but its step reads the sequence number. -/

/-- The table with another sequence number. -/
abbrev Table.numbered (t : Table) (n : Word16) : Table :=
  { t with sequence := n }

theorem Table.updates_numbered (f : ZoneEntry → ZoneEntry) (zs : List Nat) (t : Table) (n : Word16) :
    zs.foldl (fun u z => u.updateZone z f) (t.numbered n) = (zs.foldl (fun u z => u.updateZone z f) t).numbered n := by
  induction zs generalizing t with
  | nil => rfl
  | cons z zs ih => exact ih (t.updateZone z f)

theorem Table.grantPass_numbered (t : Table) (n : Word16) :
    (t.numbered n).grantPass = (t.grantPass.1.numbered n, t.grantPass.2) := by
  have visits : ∀ (l : List Record) (acc : Table × List RecordRef),
      l.foldl Table.visit (acc.1.numbered n, acc.2) =
        ((l.foldl Table.visit acc).1.numbered n, (l.foldl Table.visit acc).2) := by
    intro l
    induction l with
    | nil => exact fun _ => rfl
    | cons r l ih =>
      intro acc
      rw [List.foldl_cons, List.foldl_cons, ← ih]
      congr 1
      have same : (acc.1.numbered n).grantable r = acc.1.grantable r := rfl
      simp only [Table.visit, same]
      split
      · simp only [Table.grant, Table.updates_numbered]
      · rfl
  exact visits _ (t, [])

theorem Table.remove_numbered (t : Table) (n : Word16) (gone : Nat → Nat → Bool) :
    (t.numbered n).remove gone = (t.remove gone).numbered n := rfl

theorem Table.judgeClaim_numbered (t : Table) (n : Word16) (owner tag : Nat) (m : Mode) (zones : List Nat) :
    (t.numbered n).judgeClaim owner tag m zones = t.judgeClaim owner tag m zones := rfl

theorem Table.place_numbered (t : Table) (n : Word16) (owner tag : Nat) (m : Mode) (zones : List Nat) :
    (t.numbered n).place owner tag m zones = (t.place owner tag m zones).numbered n := by
  unfold Table.place
  rw [Table.judgeClaim_numbered]
  split <;> simp only [Table.append, Table.updates_numbered]

theorem Table.Wf.numbered {t : Table} (h : t.Wf) (n : Word16) : (t.numbered n).Wf := h

end Sys2Proof.Machine
end

section
/-! The obligations about the zone table alone. -/

namespace Sys2Proof.Machine

set_option Elab.async false

/-- Settles O21, by the definitions of R10 and one visit of the grant pass. -/
theorem grantabilityTest : Obligations.GrantabilityTest := by
  unfold Obligations.GrantabilityTest
  refine ⟨fun e m => ?_, fun t r => ?_, fun t earlier r => ?_⟩
  · simp [ZoneEntry.compatible, and_assoc]
  · simp only [Table.grantable, Bool.and_eq_true, beq_iff_eq, List.all_eq_true]
    refine and_congr_right fun _ => forall₂_congr fun z _ => ?_
    rw [Table.grantableIn_eq, ZoneEntry.grants, Bool.and_eq_true, Record.ref_mode]
    refine and_congr_left fun _ => ?_
    cases (t.zoneAt z).waiters <;> simp [RecordRef.same_iff]
  · rw [List.foldl_append, List.foldl_cons, List.foldl_nil]
    obtain ⟨yes, visited⟩ | ⟨no, visited⟩ := Table.visit_cases (earlier.foldl Table.visit (t, [])) r
    · exact ⟨fun _ => visited, fun no => absurd (yes.symm.trans no) (by decide)⟩
    · exact ⟨fun yes => absurd (yes.symm.trans no) (by decide), fun _ => visited⟩

/-- R11: what a pass changes of the records it may grant. -/
theorem forall₂_mayTurnGranted {l m : List Record} (h : List.Forall₂ Record.MayTurnGranted l m) :
    m.map Record.ref = l.map Record.ref ∧ m.map Record.zones = l.map Record.zones ∧
      ∀ p ∈ l.zip m, p.1.status = .granted → p.2.status = .granted := by
  induction h with
  | nil => simp
  | cons turned _ ih =>
    obtain ⟨refs, zones, kept⟩ := ih
    obtain rfl | ⟨waits, rfl⟩ := turned
    · exact ⟨by simp [refs], by simp [zones], by simpa using kept⟩
    · exact ⟨by simp [refs], by simp [zones], by simpa using kept⟩

/-- Settles O22: the pass over a sound table by induction along the request list (`Table.Sound.visits`). -/
theorem grantPassSettlesTheTable : Obligations.GrantPassSettlesTheTable := by
  unfold Obligations.GrantPassSettlesTheTable
  intro t sound
  obtain ⟨wf, turned, granted⟩ := sound.grantPass
  obtain ⟨refs, zones, kept⟩ := forall₂_mayTurnGranted turned
  exact ⟨⟨wf, t.grantPass_sequence, refs, zones, granted, kept⟩, fun gone => ⟨sound.remove gone, rfl, rfl⟩⟩

/-- Settles O23, check by check. -/
theorem claimPlacement : Obligations.ClaimPlacement := by
  unfold Obligations.ClaimPlacement
  intro t owner tag m zones wf owner_lt tag_lt some_zone four_zones nodup inside u outcome placed inUse full free queueFull
  have fits : ∀ x, (claimRecord owner tag m zones x).Fits := fun _ =>
    ⟨owner_lt, tag_lt, some_zone, four_zones, nodup, inside⟩
  have inUse_iff : inUse ↔ t.find owner tag ≠ none := by
    rw [ne_eq, Table.find_none_iff]; simp [inUse]
  have refused : ∀ r, outcome = .refused r → u = t := fun r j => by
    change t.place owner tag m zones = t
    rw [Table.place, show t.judgeClaim owner tag m zones = .refused r from j]
  refine ⟨wf.place fits, t.place_sequence owner tag m zones, fun a => ?_, fun a b => ?_, fun a b c => ?_, fun a b c d => ?_,
    fun a b c d => ?_⟩
  · have j := Table.judgeClaim_of_inUse (m := m) (zones := zones) (inUse_iff.mp a)
    exact ⟨j, refused _ j⟩
  · have j := Table.judgeClaim_of_full (m := m) (zones := zones) (not_not.mp (mt inUse_iff.mpr a)) b
    exact ⟨j, refused _ j⟩
  · have j := Table.judgeClaim_of_free (not_not.mp (mt inUse_iff.mpr a)) b c
    refine ⟨j, ?_⟩
    change (t.place owner tag m zones).requests = _
    rw [Table.place, j]; rfl
  · have j := Table.judgeClaim_of_queueFull (not_not.mp (mt inUse_iff.mpr a)) b c d
    exact ⟨j, refused _ j⟩
  · have j := Table.judgeClaim_of_short (not_not.mp (mt inUse_iff.mpr a)) b c d
    refine ⟨j, ?_⟩
    change (t.place owner tag m zones).requests = _
    rw [Table.place, j]; rfl

/-- Settles O24: both tables have the entries that the request list calls for. -/
theorem installationRebuildsTheTable : Obligations.InstallationRebuildsTheTable := by
  unfold Obligations.InstallationRebuildsTheTable
  intro t n wf
  obtain ⟨⟨fits, -, -, zones, -, -⟩, -⟩ := wf
  obtain ⟨requests, entries⟩ := Table.foldl_append t.requests Table.cleared Table.cleared_zones
    fun r hr => (fits r hr).2.2.2.2.1
  change { t.requests.foldl Table.append Table.cleared with sequence := n } = _
  rw [show t.requests.foldl Table.append Table.cleared = ⟨_, _, _⟩ from rfl, requests, entries]
  simp [Table.cleared, zones]

end Sys2Proof.Machine
end

section
/-! SUPPORT. The slots (R134, R135): which changes keep every slot with the fields its state calls for. -/

namespace Sys2Proof.Machine

set_option Elab.async false

/-! ### One slot -/

theorem Slot.Fits.become {z : Nat} {b : Slot} (h : b.Fits z) (busy : b.state ≠ .free) {x : SlotState} {r : Option Reason}
    (hr : r.isSome = true ↔ x = .lost ∨ x = .refused) : (b.become x r).Fits z := by
  obtain ⟨-, request, -, -⟩ := h
  refine ⟨fun free => ?_, fun taken => ?_, hr, fun d => ?_⟩
  · simp only [Slot.become_state] at free; simp [free]
  · simp only [Slot.become_state] at taken; simpa [taken] using request busy
  · simp at d

theorem Slot.Fits.freed {z : Nat} (b : Slot) : (b.become .free none).Fits z := by
  simp [Slot.Fits]

theorem Slot.Fits.noDrop {z : Nat} {b : Slot} (h : b.Fits z) : ({ b with dropWanted := false } : Slot).Fits z := by
  obtain ⟨free, request, reason, -⟩ := h
  exact ⟨free, request, reason, by simp⟩

theorem Slot.Fits.settle {z : Nat} {b : Slot} (h : b.Fits z) (r : Reason) : (b.settle r).Fits z := by
  obtain ⟨holding, e⟩ | ⟨-, e⟩ | ⟨-, -, -, e⟩ := b.settle_cases r <;> rw [e]
  · exact h.become (by rcases holding with w | w <;> simp [w]) (by simp)
  · exact Slot.Fits.freed b
  · exact h.noDrop

/-! ### The eight slots -/

theorem forall_mem_modify {α : Type} {p : α → Prop} {f : α → α} {l : List α} {k : Nat} (h : ∀ a ∈ l, p a)
    (hk : ∀ a, l[k]? = some a → p (f a)) : ∀ a ∈ l.modify k f, p a := by
  intro a ha
  obtain ⟨i, hi⟩ := List.getElem?_of_mem ha
  rw [List.getElem?_modify, Option.map_eq_map, Option.map_eq_some_iff] at hi
  obtain ⟨b, hb, rfl⟩ := hi
  split
  · rename_i e; exact hk b (e ▸ hb)
  · exact h b (List.mem_of_getElem? hb)

theorem State.slotAt_of_getElem? {s : State} {k : Nat} {b : Slot} (h : s.slots[k]? = some b) : s.slotAt k = b := by
  simp [State.slotAt, List.getD_eq_getElem?_getD, h]

/-- A slot that is not FREE is one of the eight. -/
theorem State.mem_slots_of_busy {s : State} {k : Nat} (h : (s.slotAt k).state ≠ .free) :
    k < s.slots.length ∧ s.slotAt k ∈ s.slots := by
  by_cases hk : k < s.slots.length
  · refine ⟨hk, ?_⟩
    rw [State.slotAt_of_getElem? (List.getElem?_eq_getElem hk)]
    exact List.getElem_mem hk
  · exact absurd (by simp [State.slotAt, List.getD_eq_getElem?_getD, List.getElem?_eq_none (Nat.le_of_not_lt hk), Slot.fresh]) h

theorem State.slotAt_fits {s : State} (h : s.SlotsFit) {k : Nat} (busy : (s.slotAt k).state ≠ .free) :
    (s.slotAt k).Fits s.zoneCount :=
  h.2.1 _ (State.mem_slots_of_busy busy).2

/-- R171: a station with a slot that is not FREE has left CONFIG. -/
theorem State.SlotsFit.left_config {s : State} (h : s.SlotsFit) {k : Nat} (busy : (s.slotAt k).state ≠ .free) :
    s.station ≠ .config :=
  fun c => busy (h.2.2 c _ (State.mem_slots_of_busy busy).2)

theorem State.SlotsFit.updateSlot {s : State} (h : s.SlotsFit) {k : Nat} {f : Slot → Slot}
    (fits : ∀ b ∈ s.slots, s.slotAt k = b → (f b).Fits s.zoneCount)
    (inConfig : s.station = .config → ∀ b ∈ s.slots, s.slotAt k = b → (f b).state = .free) :
    (s.updateSlot k f).SlotsFit := by
  obtain ⟨count, each, free⟩ := h
  have found : ∀ b, s.slots[k]? = some b → b ∈ s.slots ∧ s.slotAt k = b := fun b hb =>
    ⟨List.mem_of_getElem? hb, State.slotAt_of_getElem? hb⟩
  exact ⟨by simpa using count, forall_mem_modify each fun b hb => fits b (found b hb).1 (found b hb).2,
    fun c => forall_mem_modify (free c) fun b hb => inConfig c b (found b hb).1 (found b hb).2⟩

/-- R134, R135: a slot that is not FREE takes another state with its reason. -/
theorem State.SlotsFit.become {s : State} (h : s.SlotsFit) {k : Nat} (busy : (s.slotAt k).state ≠ .free) {x : SlotState}
    {r : Option Reason} (hr : r.isSome = true ↔ x = .lost ∨ x = .refused) :
    (s.updateSlot k (Slot.become x r)).SlotsFit :=
  h.updateSlot (fun _ _ e => e ▸ (State.slotAt_fits h busy).become busy hr) fun c => absurd c (h.left_config busy)

/-- R134: a slot becomes FREE. -/
theorem State.SlotsFit.freed {s : State} (h : s.SlotsFit) (k : Nat) : (s.updateSlot k (Slot.become .free none)).SlotsFit :=
  h.updateSlot (fun _ _ _ => Slot.Fits.freed _) fun _ _ _ _ => rfl

/-- R150: a slot is drop-wanted no more. -/
theorem State.SlotsFit.noDrop {s : State} (h : s.SlotsFit) (k : Nat) :
    (s.updateSlot k fun b => { b with dropWanted := false }).SlotsFit :=
  h.updateSlot (fun b hb _ => (h.2.1 b hb).noDrop) fun c b hb _ => h.2.2 c b hb

end Sys2Proof.Machine
end

section
/-! SUPPORT. What a step leaves of the zone table, the slots, the leases and the configuration: most operations leave the
cell as it stands (`State.SameCell`), and the others give it up, halt the station, or end a frame. -/

namespace Sys2Proof.Machine

set_option Elab.async false

/-! ### The configuration (R170, R172) -/

/-- R172: the bounds of a configuration that START accepted. -/
theorem State.ConfigFits.bounds {s : State} (h : s.ConfigFits) (c : s.station ≠ .config) :
    (4 ≤ s.rosterSlots ∧ s.rosterSlots ≤ 32) ∧ s.own < s.rosterSlots ∧ s.zoneCount ≤ 64 ∧ 2 ≤ s.evictAt ∧
      3 ≤ s.retryLimit := by
  have passed := h c
  simp only [ConfigSet.failedCheck] at passed
  simp only [State.rosterSlots, State.own, State.zoneCount, State.evictAt, State.retryLimit]
  split_ifs at passed
  all_goals first | contradiction | omega

/-! ### The invariants of table, slots, leases and configuration -/

/-- The invariants of slots, table place and configuration, which hold throughout a frame end. -/
structure State.CoreFits (s : State) : Prop where
  slots : s.SlotsFit
  place : s.TableWhere
  config : s.ConfigFits

/-- These and the invariant of the leases, which the lease unit restores last. -/
structure State.CellFits (s : State) : Prop extends s.CoreFits where
  leases : s.LeasesFit

/-- What a step starts from: these invariants, a well-formed table, no entry in CONFIG, and every retry count below T. -/
structure State.CellInv (s : State) : Prop extends s.CellFits where
  wf : s.table.Wf
  idle : s.station = .config → s.outbound.entries = []
  retries : ∀ e ∈ s.outbound.entries, e.retries < s.retryLimit

theorem State.Inv.cellInv {s : State} (h : s.Inv) : s.CellInv := by
  obtain ⟨config, wf, place, slots, ⟨-, -, -, retries, idle⟩, -, -, -, -, leases⟩ := h
  exact { slots, place, config, leases, wf, idle, retries }

/-- What every step but a frame end leaves. -/
abbrev State.CellGood (s : State) : Prop :=
  s.CellFits ∧ s.table.Wf

theorem State.CellInv.good {s : State} (h : s.CellInv) : s.CellGood :=
  ⟨h.toCellFits, h.wf⟩

/-! ### Operations that leave the cell as it stands -/

/-- The station, its configuration, its table and its leases stand; the slots still fit. -/
structure State.SameCell (s t : State) : Prop where
  station : t.station = s.station
  config : t.config = s.config
  table : t.table = s.table
  peers : t.lease.leases.map Lease.peer = s.lease.leases.map Lease.peer
  timers : (∀ l ∈ s.lease.leases, l.timer ≠ .inactive) → ∀ l ∈ t.lease.leases, l.timer ≠ .inactive
  slots : s.SlotsFit → t.SlotsFit

/-- Besides, no attempt failed: every entry has a retry count that stood, or is new. -/
structure State.Minor (s t : State) : Prop extends State.SameCell s t where
  entries : s.SlotsFit → ∀ e ∈ t.outbound.entries,
    (∃ x ∈ s.outbound.entries, e.retries = x.retries) ∨ (e.retries = 0 ∧ s.station ≠ .config)

theorem State.SlotsFit.congr {s t : State} (h : s.SlotsFit) (station : t.station = s.station) (config : t.config = s.config)
    (slots : t.slots = s.slots) : t.SlotsFit := by
  simpa only [State.SlotsFit, State.zoneCount, station, config, slots] using h

theorem State.SameCell.of_eq {s t : State} (station : t.station = s.station) (config : t.config = s.config)
    (table : t.table = s.table) (leases : t.lease.leases = s.lease.leases) (slots : t.slots = s.slots) :
    s.SameCell t where
  station := station
  config := config
  table := table
  peers := by rw [leases]
  timers := by rw [leases]; exact id
  slots h := h.congr station config slots

theorem State.Minor.of_eq {s t : State} (station : t.station = s.station) (config : t.config = s.config)
    (table : t.table = s.table) (leases : t.lease.leases = s.lease.leases) (slots : t.slots = s.slots)
    (entries : t.outbound.entries = s.outbound.entries) : s.Minor t :=
  { State.SameCell.of_eq station config table leases slots with
    entries := fun _ e he => .inl ⟨e, entries ▸ he, rfl⟩ }

theorem State.Minor.refl (s : State) : s.Minor s := .of_eq rfl rfl rfl rfl rfl rfl

theorem State.SameCell.trans {s t u : State} (h : s.SameCell t) (g : t.SameCell u) : s.SameCell u where
  station := g.station.trans h.station
  config := g.config.trans h.config
  table := g.table.trans h.table
  peers := g.peers.trans h.peers
  timers := g.timers ∘ h.timers
  slots := g.slots ∘ h.slots

theorem State.Minor.trans {s t u : State} (h : s.Minor t) (g : t.Minor u) : s.Minor u :=
  { h.toSameCell.trans g.toSameCell with
    entries := fun fit e he => by
      obtain ⟨x, hx, same⟩ | ⟨zero, left⟩ := g.entries (h.slots fit) e he
      · rw [same]; exact h.entries fit x hx
      · exact .inr ⟨zero, h.station ▸ left⟩ }

theorem State.Minor.foldl {α : Type} {f : State → α → State} (h : ∀ s a, State.Minor s (f s a)) (l : List α) (s : State) :
    s.Minor (l.foldl f s) := by
  induction l generalizing s with
  | nil => exact .refl s
  | cons a l ih => exact (h s a).trans (ih _)

theorem State.CoreFits.same {s t : State} (h : s.CoreFits) (g : s.SameCell t) : t.CoreFits where
  slots := g.slots h.slots
  place := by have := h.place; rwa [State.TableWhere, ← g.station, ← g.table] at this
  config := by have := h.config; rwa [State.ConfigFits, ← g.station, ← g.config] at this

theorem State.CellFits.same {s t : State} (h : s.CellFits) (g : s.SameCell t) : t.CellFits :=
  { h.toCoreFits.same g with
    leases := by
      obtain ⟨peers, timers⟩ := h.leases
      refine ⟨g.peers.trans (peers.trans ?_), g.timers timers⟩
      rw [g.station, g.table, State.own, State.own, g.config] }

theorem State.CellGood.same {s t : State} (h : s.CellGood) (g : s.SameCell t) : t.CellGood :=
  ⟨h.1.same g, g.table ▸ h.2⟩

theorem State.CellInv.minor {s t : State} (h : s.CellInv) (g : s.Minor t) : t.CellInv :=
  { h.toCellFits.same g.toSameCell with
    wf := g.table ▸ h.wf
    idle := fun c => by
      refine List.eq_nil_iff_forall_not_mem.mpr fun e he => ?_
      have none_stood := h.idle (g.station ▸ c)
      obtain ⟨x, hx, -⟩ | ⟨-, left⟩ := g.entries h.slots e he
      · simp [none_stood] at hx
      · exact left (g.station ▸ c)
    retries := fun e he => by
      have limit : t.retryLimit = s.retryLimit := by rw [State.retryLimit, State.retryLimit, g.config]
      rw [limit]
      obtain ⟨x, hx, same⟩ | ⟨zero, left⟩ := g.entries h.slots e he
      · rw [same]; exact h.retries x hx
      · have := (h.config.bounds left).2.2.2.2
        omega }

/-! ### Entries -/

theorem State.Minor.request (s : State) (k : EntryKind) (left : s.SlotsFit → s.station ≠ .config) :
    s.Minor (s.request k) := by
  have same : s.SameCell (s.request k) := .of_eq rfl rfl rfl rfl rfl
  obtain ⟨-, h⟩ | ⟨-, h⟩ := s.outbound.request_cases k
  · exact .of_eq rfl rfl rfl rfl rfl (by simp [h])
  · refine { same with entries := fun fit e he => ?_ }
    simp only [State.request_outbound, h, List.mem_append, List.mem_singleton] at he
    rcases he with he | rfl
    · exact .inl ⟨e, he, rfl⟩
    · exact .inr ⟨rfl, left fit⟩

theorem State.Minor.withdraw (s : State) (k : EntryKind) :
    s.Minor { s with outbound := s.outbound.withdraw k } := by
  have same : s.SameCell { s with outbound := s.outbound.withdraw k } := .of_eq rfl rfl rfl rfl rfl
  refine { same with entries := fun _ e he => .inl ?_ }
  simp only [Outbound.withdraw, List.mem_map, List.mem_filter] at he
  obtain ⟨x, ⟨hx, -⟩, rfl⟩ := he
  exact ⟨x, hx, by split <;> rfl⟩

theorem State.Minor.ask (s : State) : s.Minor s.ask := by
  obtain ⟨-, h⟩ | ⟨x, -, h⟩ := s.ask_cases
  · rw [h]; exact .refl s
  · have same : s.SameCell s.ask := by rw [h]; exact .of_eq rfl rfl rfl rfl rfl
    refine { same with entries := fun _ e he => .inl ?_ }
    rw [h] at he
    obtain ⟨y, hy, rfl⟩ := List.mem_map.mp he
    exact ⟨y, hy, by split <;> rfl⟩

theorem State.SameCell.updateSlot (s : State) {k : Nat} {f : Slot → Slot} (h : s.SlotsFit → (s.updateSlot k f).SlotsFit) :
    s.SameCell (s.updateSlot k f) :=
  { State.SameCell.of_eq (t := { s.updateSlot k f with slots := s.slots }) rfl rfl rfl rfl rfl with slots := h }

theorem State.Minor.updateSlot (s : State) {k : Nat} {f : Slot → Slot} (h : s.SlotsFit → (s.updateSlot k f).SlotsFit) :
    s.Minor (s.updateSlot k f) :=
  { State.SameCell.updateSlot s h with entries := fun _ e he => .inl ⟨e, he, rfl⟩ }

/-- R135: a slot that is not FREE takes another state with its reason. -/
theorem State.Minor.become (s : State) {k : Nat} (busy : (s.slotAt k).state ≠ .free) {x : SlotState} {r : Option Reason}
    (hr : r.isSome = true ↔ x = .lost ∨ x = .refused) : s.Minor (s.updateSlot k (Slot.become x r)) :=
  .updateSlot s fun h => h.become busy hr

theorem State.Minor.freed (s : State) (k : Nat) : s.Minor (s.updateSlot k (Slot.become .free none)) :=
  .updateSlot s fun h => h.freed k

/-- R110, R112, R113: the end of an attempt touches the outbound set, and at most one slot, which becomes FREE. -/
theorem State.SameCell.settleDropWanted (s : State) (k : EntryKind) : s.SameCell (s.settleDropWanted k) := by
  obtain h | ⟨tag, -, -, h⟩ := s.settleDropWanted_cases k <;> rw [h]
  · exact .of_eq rfl rfl rfl rfl rfl
  · exact (State.Minor.freed s tag).toSameCell

theorem State.settleDropWanted_outbound (k : EntryKind) (s : State) : (s.settleDropWanted k).outbound = s.outbound := by
  obtain h | ⟨tag, -, -, h⟩ := s.settleDropWanted_cases k <;> rw [h]
  rfl

theorem State.SameCell.endAttempt (s : State) (counted : Bool) : s.SameCell (s.endAttempt counted) := by
  obtain ⟨-, h⟩ | ⟨e, -, -, h⟩ | ⟨e, -, -, h⟩ := s.endAttempt_cases counted <;> rw [h]
  · exact .of_eq rfl rfl rfl rfl rfl
  · refine State.SameCell.trans ?_ (.settleDropWanted _ _)
    exact .of_eq rfl rfl rfl rfl rfl
  · exact .of_eq rfl rfl rfl rfl rfl

/-- R110, R112, R113: the entries after the end of an attempt are those before it, counted or not. -/
theorem State.mem_endAttempt {s : State} {counted : Bool} {e : Entry} (he : e ∈ (s.endAttempt counted).outbound.entries) :
    ∃ x ∈ s.outbound.entries, e.kind = x.kind ∧ e.retries ≤ x.retries + counted.toNat ∧ x.retries ≤ e.retries := by
  obtain ⟨-, h⟩ | ⟨x, -, -, h⟩ | ⟨x, -, -, h⟩ := s.endAttempt_cases counted <;> rw [h] at he
  · exact ⟨e, he, rfl, by omega, le_rfl⟩
  · rw [State.settleDropWanted_outbound] at he
    exact ⟨e, (List.mem_filter.mp he).1, rfl, by omega, le_rfl⟩
  · obtain ⟨y, hy, rfl⟩ := List.mem_map.mp he
    refine ⟨y, hy, ?_⟩
    split <;> simp

theorem State.Minor.endUncounted (s : State) : s.Minor (s.endAttempt false) :=
  { State.SameCell.endAttempt s false with
    entries := fun _ e he => by
      obtain ⟨x, hx, -, upper, lower⟩ := State.mem_endAttempt he
      exact .inl ⟨x, hx, le_antisymm (by simpa using upper) lower⟩ }

/-! ### The line (R117, R122 to R131) -/

theorem State.Minor.quietComesTo (s : State) (n : Nat) : s.Minor (s.quietComesTo n) := .of_eq rfl rfl rfl rfl rfl rfl

theorem State.Minor.afterLastPhase (s : State) : s.Minor s.afterLastPhase := by
  obtain ⟨-, h⟩ | ⟨-, h⟩ := s.afterLastPhase_cases <;> rw [h]
  · exact .refl s
  · exact .of_eq rfl rfl rfl rfl rfl rfl

theorem State.Minor.askIfSettled (s : State) : s.Minor s.askIfSettled := by
  unfold State.askIfSettled
  split
  · exact .ask s
  · exact .refl s

theorem State.Minor.frameStart (s : State) (n : Nat) : s.Minor (s.frameStart n) := by
  unfold State.frameStart
  split
  · exact (State.Minor.quietComesTo s n).trans (.askIfSettled _)
  · exact .refl s

theorem State.Minor.keyMark (s : State) (n : Nat) : s.Minor (s.keyMark n) := by
  unfold State.keyMark
  split
  · have edge : s.Minor (s.resync.quietComesTo n) := .of_eq rfl rfl rfl rfl rfl rfl
    exact (edge.trans (.askIfSettled _)).trans (.of_eq rfl rfl rfl rfl rfl rfl)
  · exact .refl s

theorem State.Minor.arbitrationLoss (s : State) : s.Minor s.arbitrationLoss := by
  unfold State.arbitrationLoss
  split
  · exact (State.Minor.endUncounted s).trans (.of_eq rfl rfl rfl rfl rfl rfl)
  · exact .refl s

theorem State.Minor.becomeStuck (s : State) : s.Minor s.becomeStuck := by
  unfold State.becomeStuck
  split
  · exact (State.Minor.endUncounted s).trans (.of_eq rfl rfl rfl rfl rfl rfl)
  · exact .refl s

theorem State.Minor.becomeNormal (s : State) : s.Minor s.becomeNormal := by
  unfold State.becomeNormal
  split <;> exact .of_eq rfl rfl rfl rfl rfl rfl

theorem State.Minor.roundGap (s : State) : s.Minor s.roundGap := by
  unfold State.roundGap
  split
  · exact .quietComesTo s _
  · exact .refl s

theorem State.Minor.openBit (s : State) : s.Minor s.openBit := by
  have released : s.Minor s.stopDriving := .of_eq rfl rfl rfl rfl rfl rfl
  unfold State.openBit
  split
  · exact released
  · exact released
  · split
    · exact released
    · exact .of_eq rfl rfl rfl rfl rfl rfl
  · exact .afterLastPhase s
  · split
    · exact .refl s
    · exact released.trans (.frameStart _ _)

theorem State.Minor.filterSample (s : State) (b : Level) : s.Minor (s.filterSample b) := by
  unfold State.filterSample
  split
  · exact .of_eq rfl rfl rfl rfl rfl rfl
  · split
    · exact .of_eq rfl rfl rfl rfl rfl rfl
    · split
      · refine State.Minor.trans ?_ (.keyMark s.resync _)
        exact .of_eq rfl rfl rfl rfl rfl rfl
      · exact .of_eq rfl rfl rfl rfl rfl rfl

/-! ### The deadlines (R64, R68, R73, R74, R94) -/

theorem Timer.tick_ne_inactive {x : Timer} (h : x ≠ .inactive) : x.tick ≠ .inactive := by
  cases x <;> simp_all [Timer.tick]

theorem State.Minor.leaseReached (s : State) (k : Nat) : s.Minor (s.leaseReached k) := by
  unfold State.leaseReached
  split
  · have marked : s.Minor { s with lease := s.lease.markReached k } :=
      { station := rfl, config := rfl, table := rfl
        peers := by
          simp only [LeaseUnit.markReached, List.map_map]
          exact List.map_congr_left fun x _ => by dsimp only [Function.comp]; split <;> rfl
        timers := fun h l hl => by
          simp only [LeaseUnit.markReached, List.mem_map] at hl
          obtain ⟨x, hx, rfl⟩ := hl
          split
          · simp
          · exact h x hx
        slots := fun h => h
        entries := fun _ e he => .inl ⟨e, he, rfl⟩ }
    dsimp only
    split
    · rename_i h
      exact marked.trans (.request _ _ fun _ => by simp [h.1])
    · exact marked
  · exact .refl s

theorem State.Minor.pulseReached (s : State) : s.Minor s.pulseReached := by
  unfold State.pulseReached
  have marked : s.Minor { s with lease := { s.lease with pulse := .reached } } := .of_eq rfl rfl rfl rfl rfl rfl
  split
  · dsimp only
    split
    · rename_i h
      exact marked.trans (.request _ _ fun _ => by simp [h])
    · exact marked
  · exact .refl s

theorem State.Minor.fenceTag (s : State) (tag : Nat) : s.Minor (s.fenceTag tag) := by
  have lost : (s.slotAt tag).state ≠ .free →
      s.Minor ((s.updateSlot tag (Slot.become .lost (some .fenced))).request (.drop tag)) := fun busy =>
    have fenced := State.Minor.become s (r := some .fenced) busy (x := .lost) (by simp)
    { fenced.toSameCell.trans (.of_eq rfl rfl rfl rfl rfl) with
      entries := fun fit e he => by
        obtain ⟨x, hx, same⟩ | new := (State.Minor.request (s.updateSlot tag (Slot.become .lost (some .fenced))) (.drop tag)
          fun _ => fit.left_config busy).entries (fenced.slots fit) e he
        · exact .inl ⟨x, hx, same⟩
        · exact .inr new }
  unfold State.fenceTag
  cases x : (s.slotAt tag).state
  case waiting => exact lost (by simp [x])
  case granted => exact lost (by simp [x])
  all_goals exact .refl s

theorem State.Minor.guardReached (s : State) : s.Minor s.guardReached := by
  unfold State.guardReached
  split
  · refine State.Minor.trans ?_ (.foldl State.Minor.fenceTag _ _)
    exact .of_eq rfl rfl rfl rfl rfl rfl
  · exact .refl s

theorem State.Minor.windowReached (s : State) : s.Minor s.windowReached := by
  unfold State.windowReached
  have marked : s.Minor { s with lease := { s.lease with window := .reached } } := .of_eq rfl rfl rfl rfl rfl rfl
  split
  · dsimp only
    split
    · rename_i h
      exact marked.trans (.request _ _ fun _ => by simp [h])
    · exact marked
  · exact .refl s

theorem State.Minor.tick (s : State) : s.Minor s.tick := by
  have counted : s.Minor { s with lease := s.lease.tick } :=
    { station := rfl, config := rfl, table := rfl
      peers := by simp [LeaseUnit.tick, Function.comp_def]
      timers := fun h l hl => by
        simp only [LeaseUnit.tick, List.mem_map] at hl
        obtain ⟨x, hx, rfl⟩ := hl
        exact Timer.tick_ne_inactive (h x hx)
      slots := fun h => h
      entries := fun _ e he => .inl ⟨e, he, rfl⟩ }
  have then_if : ∀ {u : State} (b : Bool) (f : State → State), s.Minor u → (∀ v, State.Minor v (f v)) →
      s.Minor (if b then f u else u) := fun b f hu hf => by
    cases b
    · exact hu
    · exact hu.trans (hf _)
  have leases := counted.trans (.foldl (fun (u : State) (x : Lease) => State.Minor.leaseReached u x.peer)
    (s.lease.tick.leases.filter fun x => x.timer.due) _)
  exact then_if _ State.windowReached (then_if _ State.guardReached (then_if _ State.pulseReached leases
    State.Minor.pulseReached) State.Minor.guardReached) State.Minor.windowReached

theorem State.Minor.tickCycle (s : State) : s.Minor s.tickCycle := by
  unfold State.tickCycle
  split
  · exact .of_eq rfl rfl rfl rfl rfl rfl
  · refine State.Minor.trans ?_ (.tick _)
    exact .of_eq rfl rfl rfl rfl rfl rfl

end Sys2Proof.Machine
end

section
/-! SUPPORT. What a step leaves of the cell: every command but a frame end, and every CLKIN cycle that ends no frame, keeps the
invariants of table, slots, leases and configuration. -/

namespace Sys2Proof.Machine

set_option Elab.async false

/-! ### The cell given up, and the halt -/

theorem Table.cleared_wf : Table.cleared.Wf := by decide +kernel

/-- R27, R66: a station without a table that keeps no lease. -/
theorem State.LeasesFit.of_none {s : State} (leases : s.lease.leases = []) (station : s.station ≠ .synced) : s.LeasesFit := by
  simp [State.LeasesFit, leases, station]

/-- R27, R77, R145: what a self-restart, a RESTART and the own LEAVE leave. -/
theorem State.SlotsFit.givenUp {s t : State} (h : s.SlotsFit) (accepted : s.config.failedCheck = 0) {r : Reason}
    (station : t.station = .listen ∨ t.station = .parked) (config : t.config = s.config) (table : t.table = Table.cleared)
    (leases : t.lease.leases = []) (slots : t.slots = s.slots.map (Slot.settle r)) : t.CellGood := by
  obtain ⟨count, each, -⟩ := h
  have left : t.station ≠ .config ∧ t.station ≠ .synced := by rcases station with x | x <;> simp [x]
  refine ⟨{ slots := ⟨by simpa [slots] using count, ?_, fun c => absurd c left.1⟩
            place := fun _ => table, config := fun _ => config ▸ accepted
            leases := .of_none leases left.2 }, table ▸ Table.cleared_wf⟩
  intro b hb
  rw [slots] at hb
  obtain ⟨x, hx, rfl⟩ := List.mem_map.mp hb
  rw [State.zoneCount, config]
  exact (each x hx).settle r

theorem State.CellGood.selfRestart {s : State} (h : s.CellGood) (left : s.station ≠ .config) (c : OutCause) :
    (s.selfRestart c).CellGood :=
  h.1.slots.givenUp (h.1.config left) (.inl rfl) rfl rfl rfl rfl

theorem State.CellFits.halt {s : State} (h : s.CellFits) (left : s.station ≠ .config) (c : HaltCause) :
    (s.halt c).CellFits := by
  obtain ⟨⟨⟨count, each, -⟩, -, config⟩, -⟩ := h
  refine { slots := ⟨by simpa using count, fun b hb => ?_, fun x => by simp at x⟩
           place := fun x => by simp [StationState.holdsTable] at x
           config := fun _ => config left, leases := .of_none rfl (by simp) }
  rw [State.halt_slots] at hb
  obtain ⟨x, hx, rfl⟩ := List.mem_map.mp hb
  exact (each x hx).noDrop

theorem State.CellGood.halt {s : State} (h : s.CellGood) (left : s.station ≠ .config) (c : HaltCause) :
    (s.halt c).CellGood :=
  ⟨h.1.halt left c, h.2⟩

/-- R114 to R116: an exhaustion, which needs an entry and so comes about outside CONFIG only. -/
theorem State.CellFits.actOnExhaustion {s : State} (h : s.CellFits) (idle : s.station = .config → s.outbound.entries = []) :
    s.actOnExhaustion.CellFits := by
  have left : ∀ e ∈ s.outbound.entries, s.station ≠ .config := fun e he c => by simp [idle c] at he
  obtain ⟨-, x⟩ | ⟨e, he, -, -, x⟩ | ⟨e, he, -, -, x⟩ := s.actOnExhaustion_cases <;> rw [x]
  · exact h
  · exact h.halt (left e he) _
  · exact (h.slots.givenUp (t := s.selfRestart .retries) (h.config (left e he)) (.inl rfl) rfl rfl rfl rfl).1

theorem State.actOnExhaustion_wf {s : State} (wf : s.table.Wf) : s.actOnExhaustion.table.Wf := by
  obtain ⟨-, x⟩ | ⟨_, -, -, -, x⟩ | ⟨_, -, -, -, x⟩ := s.actOnExhaustion_cases <;> rw [x]
  · exact wf
  · exact wf
  · exact Table.cleared_wf

theorem State.CellGood.actOnExhaustion {s : State} (h : s.CellGood) (idle : s.station = .config → s.outbound.entries = []) :
    s.actOnExhaustion.CellGood :=
  ⟨h.1.actOnExhaustion idle, State.actOnExhaustion_wf h.2⟩

/-! ### The events of the line -/

/-- R103: no entry comes of the end of an attempt. -/
theorem State.CellInv.idle_endAttempt {s : State} (h : s.CellInv) (counted : Bool) (c : s.station = .config) :
    (s.endAttempt counted).outbound.entries = [] := by
  refine List.eq_nil_iff_forall_not_mem.mpr fun e he => ?_
  obtain ⟨x, hx, -⟩ := State.mem_endAttempt he
  simp [h.idle c] at hx

theorem State.CellInv.bitError {s : State} (h : s.CellInv) : s.bitError.CellGood := by
  unfold State.bitError
  split
  · have ended := State.SameCell.endAttempt s true
    refine State.CellGood.actOnExhaustion ?_ fun c => h.idle_endAttempt true (ended.station ▸ c)
    exact h.good.same (ended.trans (.of_eq rfl rfl rfl rfl rfl))
  · exact h.good

theorem State.CellInv.brokenOff {s : State} (h : s.CellInv) (cause : BreakCause) : (s.brokenOff cause).CellGood := by
  unfold State.brokenOff
  split
  · have ended := State.SameCell.endAttempt s cause.counted
    refine State.CellGood.actOnExhaustion ?_ fun c => h.idle_endAttempt _ (ended.station ▸ c)
    exact h.good.same (ended.trans (.of_eq rfl rfl rfl rfl rfl))
  · exact h.good

theorem StationState.mayDrive_ne_config {x : StationState} (h : x.mayDrive = true) : x ≠ .config := by
  rintro rfl; simp [StationState.mayDrive] at h

/-- R60, R61: a clash comes about only at a station that may drive. -/
theorem State.mayDrive_of_clashes {s : State} {c : FrameCells} (h : s.clashes c = true) : s.station.mayDrive = true := by
  simp only [State.clashes, Bool.and_eq_true] at h
  exact h.1.1.1

theorem State.CellGood.clashFound {s : State} (h : s.CellGood) (c : FrameCells) : (s.clashFound c).CellGood := by
  obtain ⟨-, x⟩ | ⟨clash, x⟩ := s.clashFound_cases c <;> rw [x]
  · exact h
  · have ended := State.SameCell.endAttempt s false
    exact (h.same ended).halt (ended.station ▸ StationState.mayDrive_ne_config (State.mayDrive_of_clashes clash)) _

theorem State.CellGood.identityClash {s : State} (h : s.CellGood) (c : FrameCells) : (s.identityClash c).CellGood := by
  unfold State.identityClash
  split
  · exact h.clashFound c
  · exact h

theorem State.CellGood.becomeAware {s : State} (h : s.CellGood) : s.becomeAware.CellGood := by
  unfold State.becomeAware
  split
  · dsimp only
    split
    · rename_i x
      obtain ⟨⟨⟨⟨count, each, -⟩, place, config⟩, ⟨peers, timers⟩⟩, wf⟩ := h
      have none_leased : s.lease.leases = [] := by simpa [x] using peers
      exact ⟨{ slots := ⟨count, each, fun c => by simp at c⟩
               place := fun _ => place (by simp [x, StationState.holdsTable])
               config := fun _ => config (by simp [x])
               leases := .of_none none_leased (by simp) }, wf⟩
    · exact h.same (.of_eq rfl rfl rfl rfl rfl)
  · exact h

/-! ### A bit read -/

/-- A step from a state that an operation of `State.Minor` leaves: it ends a frame there, or keeps the invariants. -/
def State.EndsFrameOrKeeps (s t : State) : Prop :=
  (∃ u obs, s.Minor u ∧ (u.frameEnd obs).SameCell t) ∨ t.CellGood

theorem State.EndsFrameOrKeeps.before {s t u : State} (h : s.Minor t) (g : t.EndsFrameOrKeeps u) : s.EndsFrameOrKeeps u :=
  g.imp_left fun ⟨v, obs, m, same⟩ => ⟨v, obs, h.trans m, same⟩

theorem State.EndsFrameOrKeeps.after {s t u : State} (h : s.EndsFrameOrKeeps t) (g : t.SameCell u) : s.EndsFrameOrKeeps u :=
  h.imp (fun ⟨v, obs, m, same⟩ => ⟨v, obs, m, same.trans g⟩) fun good => good.same g

theorem State.CellInv.endsOrKeeps {s t : State} (h : s.CellInv) (g : s.Minor t) : s.EndsFrameOrKeeps t :=
  .inr (h.good.same g.toSameCell)

theorem State.CellGood.endOfCells {s : State} (h : s.CellGood) (x : Rx) : (s.endOfCells x).CellGood := by
  unfold State.endOfCells
  split
  · exact (h.clashFound x.cells).same (.of_eq rfl rfl rfl rfl rfl)
  · exact h

theorem State.CellInv.cellBit {s : State} (h : s.CellInv) (b : Level) (x : Rx) : (s.cellBit b x).CellGood := by
  have recorded : ∀ y, (s.setRx y).CellInv := fun y => h.minor (.of_eq rfl rfl rfl rfl rfl rfl)
  unfold State.cellBit
  dsimp only
  split
  · split
    · exact h.brokenOff _
    · exact (recorded _).good
  split
  · split
    · split
      · exact (recorded _).good.same (State.Minor.arbitrationLoss _).toSameCell
      · exact (recorded _).bitError
    · exact (recorded _).good
  split
  · exact h.brokenOff _
  split
  · exact h.brokenOff _
  split
  · exact h.brokenOff _
  have marked : ∀ y, (if b = .drive then (s.setRx y).markError else s.setRx y).CellInv := fun y => by
    split
    · exact (recorded y).minor (.of_eq rfl rfl rfl rfl rfl rfl)
    · exact recorded y
  have judged : ∀ y, (if s.conflict x b then (if b = .drive then (s.setRx y).markError else s.setRx y).bitError
      else if b = .drive then (s.setRx y).markError else s.setRx y).CellGood := fun y => by
    split
    · exact (marked y).bitError
    · exact (marked y).good
  split
  · exact (judged _).endOfCells _
  · exact judged _

theorem State.CellInv.phaseBit {s : State} (h : s.CellInv) (b : Level) (x : Rx) : s.EndsFrameOrKeeps (s.phaseBit b x) := by
  have recorded : ∀ y, s.EndsFrameOrKeeps (s.setRx y) := fun y => h.endsOrKeeps (.of_eq rfl rfl rfl rfl rfl rfl)
  have ended : ∀ u obs, s.Minor u → s.EndsFrameOrKeeps (u.frameEnd obs) := fun u obs m =>
    .inl ⟨u, obs, m, .of_eq rfl rfl rfl rfl rfl⟩
  unfold State.phaseBit
  dsimp only
  split
  · exact recorded _
  split
  · split
    · exact h.endsOrKeeps (.of_eq rfl rfl rfl rfl rfl rfl)
    · exact recorded _
  split
  · exact recorded _
  split
  · split
    · exact h.endsOrKeeps (.of_eq rfl rfl rfl rfl rfl rfl)
    · exact ended _ _ (.of_eq rfl rfl rfl rfl rfl rfl)
  split
  · exact recorded _
  split
  · exact ended _ _ (.of_eq rfl rfl rfl rfl rfl rfl)
  · exact recorded _

theorem State.CellInv.frameBit {s : State} (h : s.CellInv) (b : Level) : s.EndsFrameOrKeeps (s.frameBit b) := by
  unfold State.frameBit
  split
  · exact .inr h.good
  · split
    · exact .inr (h.cellBit b _)
    · exact h.phaseBit b _

theorem State.CellInv.trackedBit {s : State} (h : s.CellInv) (b : Level) : s.EndsFrameOrKeeps (s.trackedBit b) := by
  unfold State.trackedBit
  split
  · exact .inr h.good
  · unfold State.recoverBit
    split
    · exact h.endsOrKeeps (.of_eq rfl rfl rfl rfl rfl rfl)
    · split
      · exact h.endsOrKeeps (.of_eq rfl rfl rfl rfl rfl rfl)
      · exact .inr h.good.becomeAware
  · unfold State.quietBit
    split
    · exact h.endsOrKeeps (.quietComesTo s _)
    · exact .inr h.good
  · exact h.frameBit b
  · exact .inr h.good

theorem State.CellInv.readBit {s : State} (h : s.CellInv) : s.EndsFrameOrKeeps s.readBit := by
  have counted : s.Minor (s.countDrive s.line.accepted) := .of_eq rfl rfl rfl rfl rfl rfl
  unfold State.readBit
  dsimp only
  split
  · unfold State.stuckBit
    split
    · exact h.endsOrKeeps (.of_eq rfl rfl rfl rfl rfl rfl)
    · split
      · exact h.endsOrKeeps (.of_eq rfl rfl rfl rfl rfl rfl)
      · exact h.endsOrKeeps (counted.trans (.becomeNormal _))
  · split
    · exact h.endsOrKeeps (counted.trans (.becomeStuck _))
    · exact ((h.minor counted).trackedBit _).before counted

/-! ### A CLKIN cycle -/

theorem State.SameCell.closePhase (s : State) : s.SameCell s.closePhase := by
  unfold State.closePhase
  split <;> exact .of_eq rfl rfl rfl rfl rfl

theorem State.CellInv.sample {s : State} (h : s.CellInv) : s.EndsFrameOrKeeps s.sample := by
  unfold State.sample
  dsimp only
  set moved : State := { s with line := { s.line with phase := s.line.phase % Config.samplesPerBit + 1 } }
  have hm : s.Minor moved := .of_eq rfl rfl rfl rfl rfl rfl
  set opened := if moved.line.phase = 1 then moved.openBit else moved with ho
  have ho : s.Minor opened := by
    rw [ho]; split
    · exact hm.trans (.openBit _)
    · exact hm
  set filtered := opened.filterSample opened.lrx
  have hf : s.Minor filtered := ho.trans (.filterSample _ _)
  have read : s.EndsFrameOrKeeps (if filtered.line.phase = Config.readSample then filtered.readBit else filtered) := by
    split
    · exact (h.minor hf).readBit.before hf
    · exact h.endsOrKeeps hf
  have closed : ∀ v, s.EndsFrameOrKeeps v →
      s.EndsFrameOrKeeps (if v.line.phase = Config.samplesPerBit then v.closePhase else v) := fun v hv => by
    split
    · exact hv.after (.closePhase v)
    · exact hv
  exact closed _ read

theorem State.CellInv.clock {s : State} (h : s.CellInv) : s.EndsFrameOrKeeps s.clock := by
  unfold State.clock
  split
  · exact .inr h.good
  · refine State.EndsFrameOrKeeps.before (.tickCycle s) ?_
    have ticked := h.minor (.tickCycle s)
    unfold State.sampleCycle
    split
    · split
      · exact ticked.endsOrKeeps (.of_eq rfl rfl rfl rfl rfl rfl)
      · refine State.EndsFrameOrKeeps.before ?_ (State.CellInv.sample (ticked.minor ?_))
        all_goals exact .of_eq rfl rfl rfl rfl rfl rfl
    · exact .inr ticked.good

/-! ### The host commands -/

theorem State.Minor.respond (s : State) (a : Answer) (d : List Byte) : s.Minor (s.respond a d) :=
  .of_eq rfl rfl rfl rfl rfl rfl

theorem State.CellGood.respond {s : State} (h : s.CellGood) (a : Answer) (d : List Byte) : (s.respond a d).CellGood :=
  h.same (State.Minor.respond s a d).toSameCell

theorem State.CellInv.configure {s : State} (h : s.CellInv) (c : ConfigSet) : (s.configure c).CellGood := by
  unfold State.configure
  split
  · rename_i x
    obtain ⟨count, each, free⟩ := h.slots
    obtain ⟨peers, timers⟩ := h.leases
    refine ⟨{ slots := ⟨count, fun b hb => ?_, free⟩, place := h.place, config := fun left => absurd x left
              leases := ⟨?_, timers⟩ }, h.wf⟩
    · obtain ⟨empty, -, reason, drop⟩ := each b hb
      exact ⟨empty, fun busy => absurd (free x b hb) busy, reason, drop⟩
    · simpa [x] using peers
  · exact h.good.respond _ _

theorem State.CellInv.start {s : State} (h : s.CellInv) : s.start.CellGood := by
  unfold State.start
  split
  · rename_i x
    split
    · rename_i accepted
      obtain ⟨count, each, -⟩ := h.slots
      have none_leased : s.lease.leases = [] := by simpa [x] using h.leases.1
      exact ⟨{ slots := ⟨count, each, fun c => by simp [State.begin] at c⟩
               place := fun _ => h.place (by simp [x, StationState.holdsTable])
               config := fun _ => accepted
               leases := .of_none none_leased (by simp [State.begin]) }, h.wf⟩
    · exact h.good.respond _ _
  · exact h.good.respond _ _

/-- R137: the mode and zone set of an accepted SUBMIT. -/
theorem zonesFit_of_submitRequest {z : Nat} {mode count z1 z2 z3 z4 : Byte} {m : Mode} {zones : List Nat}
    (h : submitRequest z mode count z1 z2 z3 z4 = some (m, zones)) : zonesFit z zones = true := by
  unfold submitRequest at h
  dsimp only at h
  split at h
  · contradiction
  · split at h
    · rename_i fits
      obtain ⟨-, rfl⟩ := Prod.mk.inj (Option.some.inj h)
      exact fits.2
    · contradiction

theorem State.CellInv.submit {s : State} (h : s.CellInv) (k m n z1 z2 z3 z4 : Byte) :
    (s.submit k m n z1 z2 z3 z4).CellGood := by
  unfold State.submit
  split
  · exact h.good.respond _ _
  split
  · exact h.good.respond _ _
  rename_i open_
  split
  · exact h.good.respond _ _
  split
  · exact h.good.respond _ _
  · rename_i mode zones accepted
    have left : s.station ≠ .config := fun c => open_ (by simp [c, StationState.refusesSubmit])
    refine (h.good.same ?_).respond _ _
    have queued : s.SameCell (s.updateSlot k.toNat fun b => { b.become .queued none with mode := some mode, zones := zones }) :=
      .updateSlot s fun fit => fit.updateSlot
        (fun b _ _ => ⟨by simp, fun _ => ⟨rfl, zonesFit_of_submitRequest accepted⟩, by simp, by simp⟩) fun c => absurd c left
    exact queued.trans (.of_eq rfl rfl rfl rfl rfl)

theorem State.CellInv.hostDrop {s : State} (h : s.CellInv) (k : Byte) : (s.hostDrop k).CellGood := by
  have released : (s.slotAt k.toNat).state ≠ .free → (s.releaseSlot k.toNat).CellGood := fun busy =>
    h.good.same ((State.Minor.become s busy (by simp)).toSameCell.trans (.of_eq rfl rfl rfl rfl rfl))
  unfold State.hostDrop
  split
  · exact h.good.respond _ _
  cases x : (s.slotAt k.toNat).state
  case queued =>
    dsimp only
    unfold State.dropQueued
    split
    · exact h.good.respond _ _
    · have asked : s.SameCell { s with outbound := s.outbound.withdraw (.claim k.toNat) } := .of_eq rfl rfl rfl rfl rfl
      dsimp only
      split
      · refine (h.good.same (asked.trans (.updateSlot (k := k.toNat) (f := fun b => { b with dropWanted := true }) _
          fun fit => fit.updateSlot (fun b hb e => ?_) fun c b hb _ => fit.2.2 c b hb))).respond _ _
        obtain ⟨empty, request, reason, -⟩ := fit.2.1 b hb
        exact ⟨empty, request, reason, fun _ => e ▸ x⟩
      · exact (h.good.same (asked.trans (State.Minor.freed _ _).toSameCell)).respond _ _
  case waiting => exact (released (by simp [x])).respond _ _
  case granted => exact (released (by simp [x])).respond _ _
  all_goals exact h.good.respond _ _

theorem State.CellInv.hostClear {s : State} (h : s.CellInv) (k : Byte) : (s.hostClear k).CellGood := by
  have freed : (s.updateSlot k.toNat (Slot.become .free none)).CellGood :=
    h.good.same (State.Minor.freed s k.toNat).toSameCell
  unfold State.hostClear
  split
  · exact h.good.respond _ _
  cases (s.slotAt k.toNat).state
  case refused => exact freed.respond _ _
  case lost =>
    dsimp only
    split
    · exact h.good.respond _ _
    · exact freed.respond _ _
  all_goals exact h.good.respond _ _

theorem State.CellInv.readSlot {s : State} (h : s.CellInv) (k : Byte) : (s.readSlot k).CellGood := by
  unfold State.readSlot
  split
  · exact h.good.respond _ _
  · exact (h.good.same (.updateSlot (k := k.toNat) (f := fun b => { b with changed := false }) s fun fit =>
      fit.updateSlot (fun b hb _ => fit.2.1 b hb) fun c b hb _ => fit.2.2 c b hb)).respond _ _

theorem State.CellInv.hostLeave {s : State} (h : s.CellInv) : s.hostLeave.CellGood := by
  unfold State.hostLeave
  split
  · split
    · exact h.good.respond _ _
    · exact (h.good.same (t := s.request .leave) (.of_eq rfl rfl rfl rfl rfl)).respond _ _
  · exact h.good.respond _ _

theorem State.CellInv.hostRestart {s : State} (h : s.CellInv) : s.hostRestart.CellGood := by
  unfold State.hostRestart
  split
  · rename_i runs
    have left : s.station ≠ .config := fun c => by simp [c, StationState.restarts] at runs
    have ended := State.SameCell.endAttempt s false
    refine State.CellGood.respond ?_ _ _
    exact (ended.slots h.slots).givenUp (ended.config ▸ h.config left) (.inl rfl) rfl rfl rfl rfl
  · exact h.good.respond _ _

theorem State.CellInv.acknowledge {s : State} (h : s.CellInv) (c : Byte) : (s.acknowledge c).CellGood := by
  unfold State.acknowledge
  split
  · exact h.good.respond _ _
  · split
    · exact (h.good.same (t := { s with attention := s.attention.acknowledged c.toNat })
        (.of_eq rfl rfl rfl rfl rfl)).respond _ _
    · exact h.good.respond _ _

theorem State.CellGood.hostTake {s : State} (h : s.CellGood) {act : State → State} (g : (act s).CellGood) :
    (s.hostTake act).CellGood := by
  obtain ⟨-, x⟩ | ⟨-, x⟩ := s.hostTake_cases act <;> rw [x]
  · exact h
  · exact g

theorem State.reset_good : State.reset.CellGood :=
  ⟨⟨⟨by decide +kernel, by decide +kernel, by decide +kernel⟩, by decide +kernel⟩, Table.cleared_wf⟩

/-! ### A step -/

/-- What a command leaves: it ends a frame, or keeps the invariants. -/
theorem State.CellInv.exec {s t : State} (h : s.CellInv) (i : Instr) (run : exec i s = .next t) : s.EndsFrameOrKeeps t := by
  have g := h.good
  have inert : ∀ {u}, s.Minor u → s.EndsFrameOrKeeps u := h.endsOrKeeps
  have taken : ∀ {act : State → State}, (act s).CellGood → s.EndsFrameOrKeeps (s.hostTake act) := fun x => .inr (g.hostTake x)
  cases i <;> obtain rfl := Host.Outcome.next.inj run
  case configure => exact taken (h.configure _)
  case start => exact taken h.start
  case submit => exact taken (h.submit _ _ _ _ _ _ _)
  case drop => exact taken (h.hostDrop _)
  case clear => exact taken (h.hostClear _)
  case slot => exact taken (h.readSlot _)
  case zone =>
    refine taken ?_
    unfold State.readZone
    split <;> exact g.respond _ _
  case roster => exact taken (g.respond _ _)
  case attention => exact taken (g.respond _ _)
  case acknowledge => exact taken (h.acknowledge _)
  case leave => exact taken h.hostLeave
  case restart => exact taken h.hostRestart
  case ident => exact taken (g.respond _ _)
  case unknownCommand => exact taken (g.respond _ _)
  case transactionNotTaken => exact taken (g.same (.of_eq rfl rfl rfl rfl rfl))
  case coldReset => exact .inr (State.reset_good.same (.of_eq rfl rfl rfl rfl rfl))
  case resetnRelease =>
    unfold State.releaseReset
    split <;> exact inert (.of_eq rfl rfl rfl rfl rfl rfl)
  case frameStart => exact inert ((State.Minor.afterLastPhase s).trans (.frameStart _ _))
  case keyMark => exact inert ((State.Minor.afterLastPhase s).trans (.keyMark _ _))
  case arbitrationLoss => exact inert (.arbitrationLoss s)
  case bitError => exact .inr h.bitError
  case frameBrokenOff => exact .inr (h.brokenOff _)
  case identityClash => exact .inr (g.identityClash _)
  case frameEnd obs => exact .inl ⟨s, obs, .refl s, .of_eq rfl rfl rfl rfl rfl⟩
  case stuck => exact inert (.becomeStuck s)
  case lineNormal => exact inert (.becomeNormal s)
  case frameAware => exact .inr g.becomeAware
  case roundGap => exact inert ((State.Minor.afterLastPhase s).trans (.roundGap _))
  case peerLeaseReached => exact inert (.leaseReached s _)
  case ownPulseDeadlineReached => exact inert (.pulseReached s)
  case fence => exact inert (.guardReached s)
  case censusWindowReached => exact inert (.windowReached s)

/-- What a step leaves: it ends a frame, or keeps the invariants. -/
theorem State.CellInv.step {s t : State} (h : s.CellInv) (run : step s = .next t) : s.EndsFrameOrKeeps t := by
  unfold Machine.step at run
  split at run
  · obtain rfl := Host.Outcome.next.inj run; exact h.clock
  · rename_i i rest _
    have queue : s.Minor { s with pending := rest } := .of_eq rfl rfl rfl rfl rfl rfl
    exact ((h.minor queue).exec i run).before queue

end Sys2Proof.Machine
end

section
/-! SUPPORT. What a frame carries (R29, R31, R39), and the frames of the operations that apply it: what each of them may
change. -/

namespace Sys2Proof.Machine

set_option Elab.async false

/-! ### The content of a frame -/

/-- R29: the class whose frames carry this content. -/
def Frame.frameClass (f : Frame) : Nat :=
  match f with
  | .expire _ => 0
  | .leave => 1
  | .join _ => 2
  | .census _ => 3
  | .drop _ => 4
  | .claim _ _ _ => 5
  | .pulse => 6

theorem field_lt (b : Byte) (hi lo : Nat) : field b hi lo < 2 ^ (hi + 1 - lo) :=
  Nat.mod_lt _ (Nat.two_pow_pos _)

/-- R31: a key carries a station number below 32. -/
theorem sender_lt (c : FrameCells) : c.sender < Config.stationNumbers :=
  field_lt c.key 4 0

theorem parseExpire_eq_some {r : Nat} {body : List Byte} {f : Frame} (h : parseExpire r body = some f) :
    ∃ k, f = .expire k := by
  unfold parseExpire at h
  split at h
  · split at h
    · exact ⟨_, (Option.some.inj h).symm⟩
    · contradiction
  · contradiction

theorem parseJoin_eq_some {body : List Byte} {f : Frame} (h : parseJoin body = some f) : ∃ pass, f = .join pass := by
  unfold parseJoin at h
  split at h
  · split at h
    · exact ⟨_, (Option.some.inj h).symm⟩
    · contradiction
  · contradiction

theorem parseCensus_eq_some {r z : Nat} {body : List Byte} {f : Frame} (h : parseCensus r z body = some f) :
    ∃ p, f = .census p := by
  unfold parseCensus at h
  split at h
  · dsimp only at h
    split at h
    · obtain ⟨records, -, e⟩ := Option.map_eq_some_iff.mp h
      exact ⟨_, e.symm⟩
    · contradiction
  · contradiction

/-- R39: a tag takes three bits. -/
theorem parseDrop_eq_some {body : List Byte} {f : Frame} (h : parseDrop body = some f) :
    ∃ k, k < Config.slotCount ∧ f = .drop k := by
  unfold parseDrop at h
  split at h
  · split at h
    · exact ⟨_, field_lt _ 2 0, (Option.some.inj h).symm⟩
    · contradiction
  · contradiction

/-- R39: the tag and the zones of a CLAIM that breaks no format rule. -/
theorem parseClaim_eq_some {z : Nat} {body : List Byte} {f : Frame} (h : parseClaim z body = some f) :
    ∃ k m zones, k < Config.slotCount ∧ zonesFit z zones = true ∧ f = .claim k m zones := by
  unfold parseClaim at h
  split at h
  · split at h
    · rename_i fits
      exact ⟨_, _, _, field_lt _ 2 0, fits.2.2, (Option.some.inj h).symm⟩
    · contradiction
  · contradiction

/-- R29, R39: the class of a frame is that of its content. -/
theorem parseFrame_frameClass {r z c : Nat} {body : List Byte} {f : Frame} (h : parseFrame r z c body = some f) :
    f.frameClass = c := by
  unfold parseFrame at h
  split at h
  · obtain ⟨_, rfl⟩ := parseExpire_eq_some h; rfl
  · split at h
    · obtain rfl := Option.some.inj h; rfl
    · contradiction
  · obtain ⟨_, rfl⟩ := parseJoin_eq_some h; rfl
  · obtain ⟨_, rfl⟩ := parseCensus_eq_some h; rfl
  · obtain ⟨_, _, rfl⟩ := parseDrop_eq_some h; rfl
  · obtain ⟨_, _, _, _, _, rfl⟩ := parseClaim_eq_some h; rfl
  · split at h
    · obtain rfl := Option.some.inj h; rfl
    · contradiction
  · contradiction

theorem State.parse_frameClass {s : State} {c : FrameCells} {f : Frame} (h : s.parse c = some f) :
    f.frameClass = c.frameClass :=
  parseFrame_frameClass h

theorem parseFrame_claim {r z c : Nat} {body : List Byte} {k : Nat} {m : Mode} {zones : List Nat}
    (h : parseFrame r z c body = some (.claim k m zones)) : k < Config.slotCount ∧ zonesFit z zones = true := by
  obtain rfl := parseFrame_frameClass h
  obtain ⟨_, _, _, small, fits, e⟩ := parseClaim_eq_some h
  obtain ⟨rfl, rfl, rfl⟩ := Frame.claim.inj e
  exact ⟨small, fits⟩

theorem State.content_eq_some {s : State} {c : FrameCells} {f : Frame} :
    s.content c = some f ↔ c.reception = .good ∧ s.parse c = some f := by
  unfold State.content
  split <;> simp_all

/-- R1, R39: the record of a CLAIM that breaks no format rule has its fields in their ranges. -/
theorem State.claimRecord_fits {s : State} {c : FrameCells} {k : Nat} {m : Mode} {zones : List Nat}
    (h : s.parse c = some (.claim k m zones)) (bound : s.zoneCount ≤ 64) (x : Status) :
    (claimRecord c.sender k m zones x).Fits := by
  obtain ⟨small, fits⟩ := parseFrame_claim h
  simp only [zonesFit, Bool.and_eq_true, decide_eq_true_eq, List.all_eq_true] at fits
  obtain ⟨⟨⟨some_zone, four⟩, inside⟩, nodup⟩ := fits
  exact ⟨sender_lt c, small, some_zone, four, nodup, fun z hz => lt_of_lt_of_le (inside z hz) bound⟩

/-! ### What the operations of a frame end may change -/

theorem State.settleDropWanted_frame (k : EntryKind) (s : State) :
    s.settleDropWanted k = { s with slots := (s.settleDropWanted k).slots } := by
  obtain h | ⟨_, -, -, h⟩ := s.settleDropWanted_cases k <;> rw [h]
  rfl

theorem State.endAttempt_frame (counted : Bool) (s : State) :
    s.endAttempt counted =
      { s with outbound := (s.endAttempt counted).outbound, slots := (s.endAttempt counted).slots } := by
  obtain ⟨-, h⟩ | ⟨_, -, -, h⟩ | ⟨_, -, -, h⟩ := s.endAttempt_cases counted <;> rw [h]
  rw [State.settleDropWanted_frame]

theorem State.takeEntry_frame (s : State) : s.takeEntry = { s with outbound := s.takeEntry.outbound } := by
  obtain ⟨-, h⟩ | ⟨_, -, h⟩ := s.takeEntry_cases <;> rw [h]

theorem State.settleTaken_frame (gone : Option Entry) (s : State) :
    s.settleTaken gone = { s with outbound := (s.settleTaken gone).outbound, slots := (s.settleTaken gone).slots } := by
  obtain ⟨_, _, -, -, h⟩ | ⟨_, _, -, -, h⟩ | h := s.settleTaken_cases gone <;> rw [h]
  · rw [State.keepCensusEntry_frame]
  · rfl

theorem State.stepSequence_frame (s : State) :
    s.stepSequence = { s with table := if s.station = .synced then s.table.stepSequence else s.table } := by
  unfold State.stepSequence; split <;> rfl

theorem State.slotPlaced_frame (tag : Nat) (p : Placement) (s : State) :
    s.slotPlaced tag p = { s with outbound := (s.slotPlaced tag p).outbound, slots := (s.slotPlaced tag p).slots } := by
  unfold State.slotPlaced; split_ifs <;> cases p <;> rfl

theorem State.slotDropped_frame (tag : Nat) (s : State) :
    s.slotDropped tag = { s with slots := (s.slotDropped tag).slots } := by
  unfold State.slotDropped; split <;> rfl

theorem State.slotExpired_frame (s : State) (tag : Nat) :
    s.slotExpired tag = { s with outbound := (s.slotExpired tag).outbound, slots := (s.slotExpired tag).slots } := by
  unfold State.slotExpired; cases (s.slotAt tag).state <;> rfl

theorem State.slotsExpired_frame (l : List Nat) (s : State) :
    l.foldl State.slotExpired s =
      { s with outbound := (l.foldl State.slotExpired s).outbound, slots := (l.foldl State.slotExpired s).slots } := by
  induction l generalizing s with
  | nil => rfl
  | cons k l ih => rw [List.foldl_cons, ih, State.slotExpired_frame s k]

theorem State.claimTaken_frame (sender tag : Nat) (m : Mode) (zones : List Nat) (s : State) :
    s.claimTaken sender tag m zones = { s with
      table := (s.table.place sender tag m zones).grantPass.1
      outbound := (s.claimTaken sender tag m zones).outbound
      slots := (s.claimTaken sender tag m zones).slots } := by
  unfold State.claimTaken
  dsimp only
  split
  · rw [State.slotPlaced_frame, State.slotsGranted_frame]
  · rw [State.slotsGranted_frame]

theorem State.dropTaken_frame (sender tag : Nat) (s : State) :
    s.dropTaken sender tag = { s with
      table := s.table.without fun o k => o == sender && k == tag
      slots := (s.dropTaken sender tag).slots } := by
  unfold State.dropTaken
  dsimp only
  split
  · rw [State.slotDropped_frame, State.removeRecords_frame]; rfl
  · rw [State.removeRecords_frame]; rfl

theorem State.expireTaken_frame (target : Nat) (s : State) :
    s.expireTaken target = { s with
      table := s.table.without fun o _ => o == target
      outbound := (s.expireTaken target).outbound
      slots := (s.expireTaken target).slots } := by
  unfold State.expireTaken
  dsimp only
  split
  · rw [State.slotsExpired_frame, State.removeRecords_frame]; rfl
  · rw [State.removeRecords_frame]; rfl

theorem State.resetRun_frame (s : State) :
    s.resetRun = { s with
      census := ({ s with census := { s.census with progress := 0, runCount := none } }).redesignate.census
      outbound := s.resetRun.outbound
      lease := { s.lease with
        window := if s.station = .syncing then .running s.durations.window else s.lease.window } } := by
  unfold State.resetRun
  rw [State.progressChanged_frame, State.redesignate_frame]
  rfl

/-- The records that a JOIN of a station removes: its own, where it was a member of a SYNCED station's cell. -/
abbrev State.rejoins (s : State) (j : Nat) : Prop :=
  s.station = .synced ∧ s.isMember j = true

theorem State.joinTaken_frame (j : Nat) (pass : Bool) (standing : StationSet) (s : State) :
    s.joinTaken j pass standing = { s with
      table := if s.rejoins j then s.table.without fun o _ => o == j else s.table
      slots := if s.rejoins j then (s.removeRecords fun o _ => o == j).slots else s.slots
      roster := (s.roster.enrol j).relearn standing
      census := (s.joinTaken j pass standing).census
      outbound := (s.joinTaken j pass standing).outbound
      lease := { s.lease with
        window := if s.station = .syncing then .running s.durations.window else s.lease.window } } := by
  unfold State.joinTaken
  dsimp only
  rw [State.resetRun_frame]
  by_cases h : s.rejoins j
  · simp only [if_pos h]
    rw [State.removeRecords_frame]
    rfl
  · simp only [if_neg h]
    rfl

theorem State.leaveTaken_frame (sender : Nat) (s : State) :
    s.leaveTaken sender = { s with
      table := s.table.without fun o _ => o == sender
      slots := (s.removeRecords fun o _ => o == sender).slots
      roster := s.roster.drop [sender]
      census := (s.leaveTaken sender).census
      outbound := (s.leaveTaken sender).outbound } := by
  unfold State.leaveTaken
  dsimp only
  rw [State.keepCensusEntry_frame, State.redesignate_frame, State.removeRecords_frame]
  rfl

theorem State.evict_frame (gone : StationSet) (s : State) :
    s.evict gone = { s with
      table := s.table.without fun o _ => gone.contains o
      slots := (s.removeRecords fun o _ => gone.contains o).slots
      roster := s.roster.drop gone
      census := (s.evict gone).census
      outbound := (s.evict gone).outbound
      lease := (s.evict gone).lease } := by
  unfold State.evict
  dsimp only
  rw [State.removeRecords_frame]
  split
  · split
    · rw [State.resetRun_frame]; rfl
    · rw [State.progressChanged_frame]; rfl
  · rw [State.redesignate_frame]; rfl

/-- R26, R89, R91: a CENSUS part that installs a table is the last of its run at a SYNCING station. -/
abbrev State.installs (s : State) (p : Part) : Prop :=
  s.station = .syncing ∧ some (s.census.progress + 1) = s.census.countAfter p

theorem State.censusTaken_frame (p : Part) (s : State) :
    s.censusTaken p = { s with
      station := if s.installs p then .synced else s.station
      table := if s.installs p then Table.install (s.census.stage p) p.sequence else s.table
      roster := { s.roster with synced := (s.censusTaken p).roster.synced }
      census := (s.censusTaken p).census
      outbound := (s.censusTaken p).outbound
      attention := if s.installs p then
        { s.attention with state := .raised StationState.synced.code } else s.attention
      lease := { s.lease with window := (s.censusTaken p).lease.window } } := by
  unfold State.censusTaken
  dsimp only
  by_cases syncing : s.station = .syncing
  · by_cases last : some (s.census.progress + 1) = s.census.countAfter p
    · simp only [State.installs, syncing, last, and_self, if_true]; rfl
    · simp only [State.installs, syncing, last, and_false, if_false]
      rw [State.progressChanged_frame]
  · simp only [State.installs, syncing, false_and, if_false]
    split
    · rfl
    · rw [State.progressChanged_frame]

/-- R13, R47, R58: the operation that the content of a TAKEN frame comes to at a member. -/
theorem State.applyContent_cases (s : State) (sender : Nat) (f : Frame) (standing : StationSet) :
    (∃ pass, f = .join pass ∧ s.applyContent sender f standing = s.joinTaken sender pass standing) ∨
    (∃ p, f = .census p ∧ s.applyContent sender f standing = s.censusTaken p) ∨
    (∃ tag m zones, f = .claim tag m zones ∧ s.station = .synced ∧
      s.applyContent sender f standing = s.claimTaken sender tag m zones) ∨
    (∃ tag, f = .drop tag ∧ s.station = .synced ∧ s.applyContent sender f standing = s.dropTaken sender tag) ∨
    (∃ target, f = .expire target ∧ s.station = .synced ∧ s.applyContent sender f standing = s.expireTaken target) ∨
    (f = .leave ∧ sender = s.own ∧ s.applyContent sender f standing = s.ownLeaveTaken) ∨
    (f = .leave ∧ sender ≠ s.own ∧ s.applyContent sender f standing = s.leaveTaken sender) ∨
    s.applyContent sender f standing = s := by
  cases f with
  | join pass => exact .inl ⟨pass, rfl, rfl⟩
  | census p => exact .inr (.inl ⟨p, rfl, rfl⟩)
  | pulse => simp [State.applyContent]
  | claim tag m zones => by_cases h : s.station = .synced <;> simp [State.applyContent, h]
  | drop tag => by_cases h : s.station = .synced <;> simp [State.applyContent, h]
  | expire target => by_cases h : s.station = .synced <;> simp [State.applyContent, h]
  | leave => by_cases h : sender = s.own <;> simp [State.applyContent, h]

/-! ### Entries: no retry count rises but at the end of an attempt (R104, R112, R118) -/

/-- Every entry of the second set is one of the first, or has retry count 0. -/
def Outbound.Fails0 (o p : Outbound) : Prop :=
  ∀ e ∈ p.entries, e ∈ o.entries ∨ e.retries = 0

theorem Outbound.Fails0.refl (o : Outbound) : o.Fails0 o := fun _ he => .inl he

theorem Outbound.Fails0.trans {o p q : Outbound} (h : o.Fails0 p) (g : p.Fails0 q) : o.Fails0 q := fun e he =>
  (g e he).elim (h e) .inr

theorem Outbound.Fails0.request (o : Outbound) (k : EntryKind) : o.Fails0 (o.request k) := by
  obtain ⟨-, h⟩ | ⟨-, h⟩ := o.request_cases k <;> rw [h]
  · exact .refl o
  · intro e he
    rcases List.mem_append.mp he with he | he
    · exact .inl he
    · exact .inr (List.mem_singleton.mp he ▸ rfl)

theorem Outbound.Fails0.discard (o : Outbound) (gone : EntryKind → Bool) : o.Fails0 (o.discard gone) := fun _ he =>
  .inl (List.mem_filter.mp he).1

theorem Outbound.Fails0.keepCensusEntry (s : State) : s.outbound.Fails0 s.keepCensusEntry.outbound := by
  unfold State.keepCensusEntry
  split
  · exact .request _ _
  · exact .discard _ _

theorem Outbound.Fails0.progressChanged (s : State) : s.outbound.Fails0 s.progressChanged.outbound := by
  have made : s.outbound.Fails0 (s.discard EntryKind.isCensus).keepCensusEntry.outbound :=
    (Outbound.Fails0.discard _ _).trans (.keepCensusEntry _)
  unfold State.progressChanged
  dsimp only
  split
  · exact made.trans (.discard _ _)
  · exact made

theorem State.redesignate_outbound (s : State) : s.redesignate.outbound = s.outbound := by
  rw [State.redesignate_frame]

theorem Outbound.Fails0.resetRun (s : State) : s.outbound.Fails0 s.resetRun.outbound := by
  have h := Outbound.Fails0.progressChanged ({ s with census := { s.census with progress := 0, runCount := none } }.redesignate)
  rwa [State.redesignate_outbound] at h

theorem State.removeRecords_outbound (gone : Nat → Nat → Bool) (s : State) :
    (s.removeRecords gone).outbound = s.outbound := by
  rw [State.removeRecords_frame]

theorem Outbound.Fails0.evict (s : State) (gone : StationSet) : s.outbound.Fails0 (s.evict gone).outbound := by
  unfold State.evict
  rw [State.removeRecords_frame]
  dsimp only
  split
  · split
    · exact Outbound.Fails0.resetRun _
    · exact Outbound.Fails0.trans (Outbound.Fails0.discard s.outbound EntryKind.isCensus) (.progressChanged _)
  · rw [State.redesignate_outbound]
    exact .refl _

theorem Outbound.Fails0.requests (l : List Lease) (s : State) :
    s.outbound.Fails0 (l.foldl (fun u x => u.request (.expire x.peer)) s).outbound := by
  induction l generalizing s with
  | nil => exact .refl _
  | cons x l ih => exact (Outbound.Fails0.request _ _).trans (ih _)

theorem State.ownTimersAfter_outbound (own : Bool) (s : State) : (s.ownTimersAfter own).outbound = s.outbound := by
  obtain ⟨_, h⟩ | ⟨_, _, h⟩ | ⟨_, _, _, h⟩ := State.ownTimersAfter_cases own s <;> rw [h]

theorem Outbound.Fails0.leaseWork (s : State) (renewed expired : Option Nat) (own frozen : Bool) :
    s.outbound.Fails0 (s.leaseWork renewed expired own frozen).outbound := by
  have moot : ∀ gone, s.outbound.Fails0
      ((({ s with lease := { s.lease with leases := s.leasesAfter renewed } }).ownTimersAfter own).discard gone).outbound := by
    intro gone
    rw [State.discard_outbound, State.ownTimersAfter_outbound]
    exact .discard _ _
  unfold State.leaseWork
  dsimp only
  split
  · exact (moot _).trans (.requests _ _)
  · exact moot _

theorem Outbound.Fails0.takeEntry (s : State) : s.outbound.Fails0 s.takeEntry.outbound := by
  obtain ⟨-, h⟩ | ⟨_, -, h⟩ := s.takeEntry_cases <;> rw [h]
  · exact .refl _
  · exact fun _ he => .inl (List.mem_filter.mp he).1

theorem Outbound.Fails0.settleTaken (s : State) (gone : Option Entry) : s.outbound.Fails0 (s.settleTaken gone).outbound := by
  obtain ⟨_, _, -, -, h⟩ | ⟨_, _, -, -, h⟩ | h := s.settleTaken_cases gone <;> rw [h]
  · exact .keepCensusEntry s
  · exact .refl _
  · exact .refl _

theorem Outbound.Fails0.slotPlaced (s : State) (tag : Nat) (p : Placement) :
    s.outbound.Fails0 (s.slotPlaced tag p).outbound := by
  unfold State.slotPlaced
  split_ifs
  · cases p
    · exact .request _ _
    · exact .request _ _
    · exact .refl _
  · cases p <;> exact .refl _
  · exact .refl _

theorem Outbound.Fails0.slotExpired (s : State) (tag : Nat) : s.outbound.Fails0 (s.slotExpired tag).outbound := by
  unfold State.slotExpired
  cases (s.slotAt tag).state
  case releasing => exact .discard _ _
  case lost => exact .discard _ _
  all_goals exact .refl _

theorem Outbound.Fails0.slotsExpired (l : List Nat) (s : State) :
    s.outbound.Fails0 (l.foldl State.slotExpired s).outbound := by
  induction l generalizing s with
  | nil => exact .refl _
  | cons k l ih => exact (Outbound.Fails0.slotExpired s k).trans (ih _)

theorem Outbound.Fails0.censusTaken (s : State) (p : Part) : s.outbound.Fails0 (s.censusTaken p).outbound := by
  unfold State.censusTaken
  dsimp only
  split
  · split
    · exact Outbound.Fails0.trans (.discard _ _) (.discard _ EntryKind.isJoin)
    · exact .discard _ _
  · exact Outbound.Fails0.progressChanged { s with census := { s.census with
      progress := s.census.progress + 1
      runCount := s.census.countAfter p
      staging := if s.station = .syncing then s.census.stage p else [] } }

theorem Outbound.Fails0.joinTaken (s : State) (j : Nat) (pass : Bool) (standing : StationSet) :
    s.outbound.Fails0 (s.joinTaken j pass standing).outbound := by
  unfold State.joinTaken
  dsimp only
  refine Outbound.Fails0.trans ?_ (.resetRun _)
  dsimp only
  split
  · rw [State.removeRecords_outbound]; exact .refl _
  · exact .refl _

theorem Outbound.Fails0.leaveTaken (s : State) (sender : Nat) : s.outbound.Fails0 (s.leaveTaken sender).outbound := by
  unfold State.leaveTaken
  dsimp only
  refine Outbound.Fails0.trans ?_ (.keepCensusEntry _)
  rw [State.redesignate_outbound, State.removeRecords_outbound]
  exact .refl _

theorem State.slotsGranted_outbound (l : List RecordRef) (s : State) :
    (l.foldl State.slotGranted s).outbound = s.outbound := by
  rw [State.slotsGranted_frame]

theorem Outbound.Fails0.applyContent (s : State) (sender : Nat) (f : Frame) (standing : StationSet) :
    s.outbound.Fails0 (s.applyContent sender f standing).outbound := by
  rcases s.applyContent_cases sender f standing with ⟨_, -, x⟩ | ⟨_, -, x⟩ | ⟨_, _, _, -, -, x⟩ | ⟨_, -, -, x⟩ |
    ⟨_, -, -, x⟩ | ⟨-, -, x⟩ | ⟨-, -, x⟩ | x <;> rw [x]
  · exact .joinTaken _ _ _ _
  · exact .censusTaken _ _
  · unfold State.claimTaken
    dsimp only
    split
    · refine Outbound.Fails0.trans ?_ (.slotPlaced _ _ _)
      rw [State.slotsGranted_outbound]; exact .refl _
    · rw [State.slotsGranted_outbound]; exact .refl _
  · rw [State.dropTaken_frame]; exact .refl _
  · unfold State.expireTaken
    dsimp only
    split
    · refine Outbound.Fails0.trans ?_ (.slotsExpired _ _)
      rw [State.removeRecords_outbound]; exact .refl _
    · rw [State.removeRecords_outbound]; exact .refl _
  · intro e he
    obtain ⟨_, rfl, -⟩ := State.keepClaims_fresh _ e he
    exact .inr rfl
  · exact .leaveTaken _ _
  · exact .refl _

end Sys2Proof.Machine
end

section
/-! SUPPORT. What a frame end leaves of the cell (R47): the slots, the table's place, the configuration, the table, and, after the
lease unit's work, the leases. -/

namespace Sys2Proof.Machine

set_option Elab.async false

/-! ### Removal and placement at a station -/

theorem State.CoreFits.of_eq {s t : State} (h : s.CoreFits) (station : t.station = s.station)
    (config : t.config = s.config) (table : t.table = s.table) (slots : t.slots = s.slots) : t.CoreFits where
  slots := h.slots.congr station config slots
  place := by have := h.place; rwa [State.TableWhere, ← station, ← table] at this
  config := by have := h.config; rwa [State.ConfigFits, ← station, ← config] at this

/-- The core where the table changed too, at a station that may hold one. -/
theorem State.CoreFits.of_slots {s t : State} (h : s.CoreFits) (station : t.station = s.station)
    (config : t.config = s.config) (place : t.TableWhere) (slots : t.SlotsFit) : t.CoreFits where
  slots := slots
  place := place
  config := by have := h.config; rwa [State.ConfigFits, ← station, ← config] at this

theorem State.Minor.slotGranted (s : State) (r : RecordRef) : s.Minor (s.slotGranted r) := by
  unfold State.slotGranted
  split
  · rename_i h
    exact .become s (by simp [h.2]) (by simp)
  · exact .refl s

/-- R14, R11: a removal and a grant pass over a cleared table leave it clear. -/
theorem Table.without_cleared (gone : Nat → Nat → Bool) : Table.cleared.without gone = Table.cleared := by
  rw [Table.without, Table.remove_cleared, Table.grantPass_cleared]

theorem State.CoreFits.removeRecords {s : State} (h : s.CoreFits) (gone : Nat → Nat → Bool) :
    (s.removeRecords gone).CoreFits := by
  have grants := State.Minor.foldl State.Minor.slotGranted (s.table.grantedWithout gone)
    { s with table := s.table.without gone }
  have table : (s.removeRecords gone).table = s.table.without gone := by rw [State.removeRecords_frame]; rfl
  refine h.of_slots grants.station grants.config (fun away => ?_) (grants.slots h.slots)
  rw [table, h.place (grants.station ▸ away), Table.without_cleared]

theorem Table.Sound.without {t : Table} (h : t.Sound) (gone : Nat → Nat → Bool) : (t.without gone).Wf :=
  (h.remove gone).grantPass.1

theorem State.CoreFits.stepSequence {s : State} (h : s.CoreFits) : s.stepSequence.CoreFits := by
  refine h.of_slots ?_ ?_ ?_ ?_ <;> rw [State.stepSequence_frame]
  · intro away
    have : s.station ≠ .synced := fun c => by simp [c, StationState.holdsTable] at away
    simpa [this] using h.place away
  · exact h.slots

theorem State.SameCell.slotPlaced (s : State) (tag : Nat) (p : Placement) : s.SameCell (s.slotPlaced tag p) := by
  unfold State.slotPlaced
  split
  · rename_i x
    have change : ∀ {y : SlotState} {r : Option Reason}, (r.isSome = true ↔ y = .lost ∨ y = .refused) →
        s.SameCell (s.updateSlot tag (Slot.become y r)) := fun hr => (State.Minor.become s (by simp [x]) hr).toSameCell
    have release : s.SameCell ((s.updateSlot tag (Slot.become .releasing none)).request (.drop tag)) :=
      (change (by simp)).trans (.of_eq rfl rfl rfl rfl rfl)
    split
    · cases p
      · exact release
      · exact release
      · exact change (by simp)
    · cases p <;> exact change (by simp)
  · exact .of_eq rfl rfl rfl rfl rfl

theorem State.Minor.slotDropped (s : State) (tag : Nat) : s.Minor (s.slotDropped tag) := by
  unfold State.slotDropped
  split
  · exact .freed s tag
  · exact .refl s

theorem State.SameCell.slotExpired (s : State) (tag : Nat) : s.SameCell (s.slotExpired tag) := by
  have lost : (s.slotAt tag).state ≠ .free → s.SameCell (s.updateSlot tag (Slot.become .lost (some .expired))) :=
    fun busy => (State.Minor.become s busy (by simp)).toSameCell
  unfold State.slotExpired
  cases x : (s.slotAt tag).state
  case waiting => exact lost (by simp [x])
  case granted => exact lost (by simp [x])
  case releasing => exact (State.Minor.freed s tag).toSameCell.trans (.of_eq rfl rfl rfl rfl rfl)
  all_goals exact .of_eq rfl rfl rfl rfl rfl

theorem State.SameCell.foldl {α : Type} {f : State → α → State} (h : ∀ s a, State.SameCell s (f s a)) (l : List α)
    (s : State) : s.SameCell (l.foldl f s) := by
  induction l generalizing s with
  | nil => exact .of_eq rfl rfl rfl rfl rfl
  | cons a l ih => exact (h s a).trans (ih _)

/-! ### The content of a TAKEN frame -/

theorem State.CoreFits.claimTaken {s : State} (h : s.CoreFits) (synced : s.station = .synced) (sender tag : Nat) (m : Mode)
    (zones : List Nat) : (s.claimTaken sender tag m zones).CoreFits := by
  have placed := State.Minor.foldl State.Minor.slotGranted (s.table.place sender tag m zones).grantPass.2
    { s with table := (s.table.place sender tag m zones).grantPass.1 }
  have all : State.SameCell { s with table := (s.table.place sender tag m zones).grantPass.1 }
      (s.claimTaken sender tag m zones) := by
    unfold State.claimTaken
    dsimp only
    split
    · exact placed.toSameCell.trans (.slotPlaced _ _ _)
    · exact placed.toSameCell
  refine h.of_slots all.station all.config (fun away => ?_) (all.slots h.slots)
  rw [all.station] at away
  simp [synced, StationState.holdsTable] at away

theorem State.CoreFits.dropTaken {s : State} (h : s.CoreFits) (sender tag : Nat) : (s.dropTaken sender tag).CoreFits := by
  unfold State.dropTaken
  dsimp only
  split
  · exact (h.removeRecords _).same (State.Minor.slotDropped _ _).toSameCell
  · exact h.removeRecords _

theorem State.CoreFits.expireTaken {s : State} (h : s.CoreFits) (target : Nat) : (s.expireTaken target).CoreFits := by
  unfold State.expireTaken
  dsimp only
  split
  · exact (h.removeRecords _).same (.foldl State.SameCell.slotExpired _ _)
  · exact h.removeRecords _

theorem State.CoreFits.joinTaken {s : State} (h : s.CoreFits) (j : Nat) (pass : Bool) (standing : StationSet) :
    (s.joinTaken j pass standing).CoreFits := by
  rw [State.joinTaken_frame]
  by_cases rejoin : s.rejoins j
  · simp only [if_pos rejoin]
    refine (h.removeRecords fun o _ => o == j).of_eq ?_ ?_ ?_ rfl <;> rw [State.removeRecords_frame]
    rfl
  · simp only [if_neg rejoin]
    exact h.of_eq rfl rfl rfl rfl

theorem State.CoreFits.leaveTaken {s : State} (h : s.CoreFits) (sender : Nat) : (s.leaveTaken sender).CoreFits := by
  rw [State.leaveTaken_frame]
  refine (h.removeRecords fun o _ => o == sender).of_eq ?_ ?_ ?_ rfl <;> rw [State.removeRecords_frame]
  rfl

theorem State.CoreFits.evict {s : State} (h : s.CoreFits) (gone : StationSet) : (s.evict gone).CoreFits := by
  rw [State.evict_frame]
  refine (h.removeRecords fun o _ => gone.contains o).of_eq ?_ ?_ ?_ rfl <;> rw [State.removeRecords_frame]
  rfl

theorem State.CoreFits.censusTaken {s : State} (h : s.CoreFits) (p : Part) : (s.censusTaken p).CoreFits := by
  rw [State.censusTaken_frame]
  by_cases installs : s.installs p
  · simp only [if_pos installs]
    obtain ⟨⟨count, each, -⟩, -, config⟩ := h
    exact { slots := ⟨count, each, fun c => by simp at c⟩
            place := fun away => by simp [StationState.holdsTable] at away
            config := fun _ => config (by simp [installs.1]) }
  · simp only [if_neg installs]
    exact h.of_eq rfl rfl rfl rfl

theorem State.CoreFits.ownLeaveTaken {s : State} (h : s.CoreFits) (left : s.station ≠ .config) : s.ownLeaveTaken.CellGood :=
  h.slots.givenUp (h.config left) (.inr rfl) rfl rfl rfl rfl

theorem State.CoreFits.applyContent {s : State} (h : s.CoreFits) (left : s.station ≠ .config) (sender : Nat) (f : Frame)
    (standing : StationSet) : (s.applyContent sender f standing).CoreFits := by
  rcases s.applyContent_cases sender f standing with ⟨_, -, x⟩ | ⟨_, -, x⟩ | ⟨_, _, _, -, synced, x⟩ | ⟨_, -, -, x⟩ |
    ⟨_, -, -, x⟩ | ⟨-, -, x⟩ | ⟨-, -, x⟩ | x <;> rw [x]
  · exact h.joinTaken _ _ _
  · exact h.censusTaken _
  · exact h.claimTaken synced _ _ _ _
  · exact h.dropTaken _ _
  · exact h.expireTaken _
  · exact (h.ownLeaveTaken left).1.toCoreFits
  · exact h.leaveTaken _
  · exact h

/-- R1 to R12: the content of a frame leaves a well-formed table, but for an installation. -/
theorem State.applyContent_wf {s : State} (wf : s.table.Wf) (bound : s.zoneCount ≤ 64) {c : FrameCells} {f : Frame}
    (parsed : s.parse c = some f) (standing : StationSet) (stays : ∀ p, f = .census p → ¬s.installs p) :
    (s.applyContent c.sender f standing).table.Wf := by
  have without : ∀ gone, (s.table.without gone).Wf := wf.1.without
  rcases s.applyContent_cases c.sender f standing with ⟨_, -, x⟩ | ⟨p, census, x⟩ | ⟨_, _, _, claim, -, x⟩ | ⟨_, -, -, x⟩ |
    ⟨_, -, -, x⟩ | ⟨-, -, x⟩ | ⟨-, -, x⟩ | x <;> rw [x]
  · rw [State.joinTaken_frame]
    dsimp only
    split
    · exact without _
    · exact wf
  · rw [State.censusTaken_frame]
    simpa only [if_neg (stays p census)] using wf
  · rw [State.claimTaken_frame]
    exact (wf.place (State.claimRecord_fits (claim ▸ parsed) bound)).1.grantPass.1
  · rw [State.dropTaken_frame]; exact without _
  · rw [State.expireTaken_frame]; exact without _
  · exact Table.cleared_wf
  · rw [State.leaveTaken_frame]; exact without _
  · exact wf

/-! ### A TAKEN frame (R47, R111) -/

theorem State.SameCell.takeEntry (s : State) : s.SameCell s.takeEntry := by
  rw [State.takeEntry_frame]
  exact .of_eq rfl rfl rfl rfl rfl

theorem State.SameCell.settleTaken (s : State) (gone : Option Entry) : s.SameCell (s.settleTaken gone) := by
  obtain ⟨_, _, -, -, h⟩ | ⟨_, tag, -, -, h⟩ | h := s.settleTaken_cases gone <;> rw [h]
  · rw [State.keepCensusEntry_frame]
    exact .of_eq rfl rfl rfl rfl rfl
  · exact .updateSlot s fun fit => fit.noDrop tag
  · exact .of_eq rfl rfl rfl rfl rfl

/-- R8, R111: the state to which the content of a TAKEN frame is applied. -/
def State.entryTaken (own : Bool) (s : State) : State :=
  (if own then s.takeEntry else s).stepSequence

theorem State.entryTaken_frame (own : Bool) (s : State) :
    s.entryTaken own = { s with
      table := if s.station = .synced then s.table.stepSequence else s.table
      outbound := (s.entryTaken own).outbound } := by
  unfold State.entryTaken
  cases own
  · simp only [Bool.false_eq_true, if_false]
    rw [State.stepSequence_frame]
  · simp only [if_true]
    rw [State.stepSequence_frame, State.takeEntry_frame]

/-- R8, R47, R111: a TAKEN frame: the entry and the sequence number, the content, and what the entry leaves behind. -/
theorem State.applyTaken_cases (own : Bool) (c : FrameCells) (standing : StationSet) (s : State) :
    ∃ u, (s.content c = none ∧ u = s.entryTaken own ∨
        ∃ f, s.content c = some f ∧ u = (s.entryTaken own).applyContent c.sender f standing) ∧
      s.applyTaken own c standing = if own then u.settleTaken s.outbound.onLine else u := by
  unfold State.applyTaken
  cases h : s.content c with
  | none => exact ⟨_, .inl ⟨rfl, rfl⟩, rfl⟩
  | some f => exact ⟨_, .inr ⟨f, rfl, rfl⟩, rfl⟩

theorem State.CoreFits.entryTaken {s : State} (h : s.CoreFits) (own : Bool) : (s.entryTaken own).CoreFits := by
  unfold State.entryTaken
  cases own
  · exact h.stepSequence
  · exact (h.same (.takeEntry s)).stepSequence

theorem State.CoreFits.applyTaken {s : State} (h : s.CoreFits) (left : s.station ≠ .config) (own : Bool) (c : FrameCells)
    (standing : StationSet) : (s.applyTaken own c standing).CoreFits := by
  obtain ⟨u, cases_u, e⟩ := s.applyTaken_cases own c standing
  have entry := h.entryTaken own
  have core : u.CoreFits := by
    obtain ⟨-, rfl⟩ | ⟨f, -, rfl⟩ := cases_u
    · exact entry
    · exact entry.applyContent (by rw [State.entryTaken_frame]; exact left) _ _ _
  rw [e]
  split
  · exact core.same (.settleTaken u _)
  · exact core

/-- A table that a step of a SYNCING station installs is a premise; every other one is well formed. -/
abbrev State.WfOrInstalled (s t : State) : Prop :=
  t.table.Wf ∨ (s.station = .syncing ∧ t.station = .synced)

theorem State.applyTaken_wf {s : State} (wf : s.table.Wf) (bound : s.zoneCount ≤ 64) (own : Bool) (c : FrameCells)
    (standing : StationSet) : s.WfOrInstalled (s.applyTaken own c standing) := by
  obtain ⟨u, cases_u, e⟩ := s.applyTaken_cases own c standing
  have entry : (s.entryTaken own).table.Wf := by
    rw [State.entryTaken_frame]; dsimp only; split <;> exact wf
  have content : s.WfOrInstalled u := by
    obtain ⟨-, rfl⟩ | ⟨f, content, rfl⟩ := cases_u
    · exact .inl entry
    · have parsed : (s.entryTaken own).parse c = some f := by
        rw [State.entryTaken_frame]; exact (State.content_eq_some.mp content).2
      by_cases installs : ∃ p, f = .census p ∧ (s.entryTaken own).installs p
      · obtain ⟨p, rfl, installs⟩ := installs
        refine .inr ⟨?_, ?_⟩
        · have := installs.1
          rwa [State.entryTaken_frame] at this
        · change ((s.entryTaken own).censusTaken p).station = .synced
          rw [State.censusTaken_frame]
          exact if_pos installs
      · refine .inl (State.applyContent_wf entry ?_ parsed standing fun p hp i => installs ⟨p, hp, i⟩)
        rw [State.entryTaken_frame]; exact bound
  rw [e]
  split
  · have same := State.SameCell.settleTaken u s.outbound.onLine
    simpa only [State.WfOrInstalled, same.table, same.station] using content
  · exact content

/-! ### The rest of a frame end (R51 to R53, R71, R112, R114) -/

/-- R52, R71, R112: a member after the evictions, the end of its own VOID attempt and the lease unit's work. -/
def State.leasedAtEnd (s before : State) (own : Bool) (obs : FrameObs) : State :=
  let evicted := if s.toEvict.isEmpty then s else s.evict s.toEvict
  let settled := if own && !obs.taken then evicted.endAttempt true else evicted
  settled.leaseWork (if obs.taken then some obs.cells.sender else none)
    (match if obs.taken then before.content obs.cells else none with
      | some (.expire target) => some target
      | _ => none)
    (own && obs.taken) before.census.freeze

/-- R62: the station number that ROSTER is raised with at a frame end. -/
def State.rosterDetail (s before : State) (obs : FrameObs) : Option Nat :=
  match s.toEvict.min? with
  | some k => some k
  | none => if obs.taken then before.membershipChange obs.cells else none

/-- R53, R62, R114: the rest of a frame end at a member. -/
theorem State.finishMember_eq (s before : State) (own : Bool) (obs : FrameObs) :
    s.finishMember before own obs =
      if (s.leasedAtEnd before own obs).evictAt ≤ (s.leasedAtEnd before own obs).roster.missesOf
          (s.leasedAtEnd before own obs).own then
        (s.leasedAtEnd before own obs).selfRestart .ownMisses
      else ((s.leasedAtEnd before own obs).raiseRosterFor (s.rosterDetail before obs)).actOnExhaustion := rfl

theorem State.raiseRosterFor_frame (d : Option Nat) (s : State) :
    s.raiseRosterFor d = { s with attention := (s.raiseRosterFor d).attention } := by
  cases d <;> rfl

theorem State.raiseForeignFor_frame (b : Bool) (k : Nat) (s : State) :
    s.raiseForeignFor b k = { s with attention := (s.raiseForeignFor b k).attention } := by
  cases b <;> rfl

/-- R66: a station's leases after the lease unit's work. -/
theorem State.leaseWork_leases (renewed expired : Option Nat) (own frozen : Bool) (s : State) :
    (s.leaseWork renewed expired own frozen).lease.leases = s.leasesAfter renewed := by
  have timed : ∀ u : State, (u.ownTimersAfter own).lease.leases = u.lease.leases := fun u => by
    obtain ⟨_, h⟩ | ⟨_, _, h⟩ | ⟨_, _, _, h⟩ := State.ownTimersAfter_cases own u <;> rw [h]
  unfold State.leaseWork
  dsimp only
  split
  · rw [State.enterDeferred, State.requests_frame]
    exact timed _
  · exact timed _

theorem Table.countOf_cleared (k : Nat) : Table.cleared.countOf k = 0 := rfl

/-- R66: the lease unit's work leaves the leases that the table calls for. -/
theorem State.leaseWork_leasesFit {s : State} (place : s.TableWhere) (run : s.station ≠ .halted) (renewed expired : Option Nat)
    (own frozen : Bool) : (s.leaseWork renewed expired own frozen).LeasesFit := by
  rw [State.LeasesFit, State.leaseWork_leases]
  have station : (s.leaseWork renewed expired own frozen).station = s.station := by rw [State.leaseWork_frame]
  have table : (s.leaseWork renewed expired own frozen).table = s.table := by rw [State.leaseWork_frame]
  have number : (s.leaseWork renewed expired own frozen).own = s.own := by rw [State.leaseWork_frame]; rfl
  rw [station, table, number]
  constructor
  · simp only [State.leasesAfter, List.map_map, Function.comp_def, List.map_id']
    split
    · rfl
    · rename_i away
      have clear : s.table = Table.cleared := place (by
        revert away run; cases s.station <;> simp [StationState.holdsTable])
      simp [clear, Table.countOf_cleared, setOf]
  · intro l hl
    simp only [State.leasesAfter, List.mem_map] at hl
    obtain ⟨k, -, rfl⟩ := hl
    dsimp only
    unfold State.leaseAfter
    split
    · simp
    · rename_i h
      exact fun inactive => h (.inr inactive)

/-- R71: the lease unit's work leaves the core. -/
theorem State.CoreFits.leaseWork {s : State} (h : s.CoreFits) (renewed expired : Option Nat) (own frozen : Bool) :
    (s.leaseWork renewed expired own frozen).CoreFits := by
  rw [State.leaseWork_frame]
  exact h.of_eq rfl rfl rfl rfl

/-- R11, R14, R52: the table after the evictions and the lease unit's work. -/
theorem State.leasedAtEnd_table (s before : State) (own : Bool) (obs : FrameObs) :
    (s.leasedAtEnd before own obs).table = s.table ∨ ∃ gone, (s.leasedAtEnd before own obs).table = s.table.without gone := by
  unfold State.leasedAtEnd
  dsimp only
  rw [State.leaseWork_frame]
  have ended : ∀ (b : Bool) (u : State), (if b then u.endAttempt true else u).table = u.table := fun b u => by
    cases b
    · rfl
    · exact (State.SameCell.endAttempt u true).table
  dsimp only
  rw [ended]
  split
  · exact .inl rfl
  · exact .inr ⟨_, by rw [State.evict_frame]⟩

/-- R52, R71: the station, its configuration and the core after the evictions and the lease unit's work. -/
theorem State.CoreFits.leasedAtEnd {s : State} (h : s.CoreFits) (before : State) (own : Bool) (obs : FrameObs)
    (run : s.station ≠ .halted) :
    (s.leasedAtEnd before own obs).CellFits ∧ (s.leasedAtEnd before own obs).station = s.station := by
  have evicted : (if s.toEvict.isEmpty then s else s.evict s.toEvict).CoreFits ∧
      (if s.toEvict.isEmpty then s else s.evict s.toEvict).station = s.station := by
    split
    · exact ⟨h, rfl⟩
    · exact ⟨h.evict _, by rw [State.evict_frame]⟩
  have ended : ∀ (b : Bool) (u : State), u.CoreFits → (if b then u.endAttempt true else u).CoreFits ∧
      (if b then u.endAttempt true else u).station = u.station := fun b u hu => by
    cases b
    · exact ⟨hu, rfl⟩
    · exact ⟨hu.same (.endAttempt u true), (State.SameCell.endAttempt u true).station⟩
  obtain ⟨core, station⟩ := ended (own && !obs.taken) _ evicted.1
  have station := station.trans evicted.2
  refine ⟨{ core.leaseWork _ _ _ _ with leases := State.leaseWork_leasesFit core.place (station ▸ run) _ _ _ _ }, ?_⟩
  unfold State.leasedAtEnd
  dsimp only
  rw [State.leaseWork_frame]
  exact station

/-- R112: where no own attempt ended VOID, no retry count rose at the end of a frame. -/
theorem Outbound.Fails0.leasedAtEnd (s before : State) (own : Bool) (obs : FrameObs) (taken : (own && !obs.taken) = false) :
    s.outbound.Fails0 (s.leasedAtEnd before own obs).outbound := by
  unfold State.leasedAtEnd
  dsimp only
  rw [taken, if_neg Bool.false_ne_true]
  refine Outbound.Fails0.trans ?_ (.leaseWork _ _ _ _ _)
  split
  · exact .refl _
  · exact .evict s _

theorem State.CoreFits.finishMember {s : State} (h : s.CoreFits) (tracks : s.station.tracksCensus = true) (before : State)
    (own : Bool) (obs : FrameObs) : (s.finishMember before own obs).CellFits := by
  have states : s.station ≠ .halted ∧ s.station ≠ .config := by
    constructor <;> intro c <;> simp [c, StationState.tracksCensus] at tracks
  obtain ⟨leased, station⟩ := h.leasedAtEnd before own obs states.1
  have left : (s.leasedAtEnd before own obs).station ≠ .config := station ▸ states.2
  rw [State.finishMember_eq]
  split
  · exact (leased.slots.givenUp (t := State.selfRestart .ownMisses _) (leased.config left) (.inl rfl) rfl rfl rfl rfl).1
  · refine State.CellFits.actOnExhaustion ?_ ?_ <;> rw [State.raiseRosterFor_frame]
    · exact leased.same (.of_eq rfl rfl rfl rfl rfl)
    · exact fun c => absurd c left

/-- R114: the rest of a frame end leaves the table as the evictions left it, or clear; where no attempt of this station ended
VOID and none stood exhausted, a station that does not self-restart stays in its state. -/
theorem State.finishMember_wf {s before : State} {own : Bool} {obs : FrameObs} (wf : s.table.Wf) :
    (s.finishMember before own obs).table.Wf := by
  have leased : (s.leasedAtEnd before own obs).table.Wf := by
    obtain h | ⟨gone, h⟩ := s.leasedAtEnd_table before own obs <;> rw [h]
    · exact wf
    · exact wf.1.without gone
  rw [State.finishMember_eq]
  split
  · exact Table.cleared_wf
  · refine State.actOnExhaustion_wf ?_
    rw [State.raiseRosterFor_frame]
    exact leased

/-- R114: no exhaustion where every retry count is below T. -/
theorem State.actOnExhaustion_of_lt {s : State} (h : ∀ e ∈ s.outbound.entries, e.retries < s.retryLimit) :
    s.actOnExhaustion = s := by
  obtain ⟨-, x⟩ | ⟨e, he, reached, -, -⟩ | ⟨e, he, reached, -, -⟩ := s.actOnExhaustion_cases
  · exact x
  · exact absurd (h e he) (Nat.not_lt.mpr reached)
  · exact absurd (h e he) (Nat.not_lt.mpr reached)

/-- R53, R114: after a frame of which no own attempt ended VOID, a station with every retry count below T stays in its state
or self-restarts. -/
theorem State.CoreFits.finishMember_station {s before : State} {own : Bool} {obs : FrameObs} (h : s.CoreFits)
    (tracks : s.station.tracksCensus = true) (taken : (own && !obs.taken) = false)
    (retries : ∀ e ∈ s.outbound.entries, e.retries < s.retryLimit) :
    (s.finishMember before own obs).station = s.station ∨ (s.finishMember before own obs).table.Wf := by
  have states : s.station ≠ .halted ∧ s.station ≠ .config := by
    constructor <;> intro c <;> simp [c, StationState.tracksCensus] at tracks
  have station := (h.leasedAtEnd before own obs states.1).2
  have limit : (s.leasedAtEnd before own obs).config = s.config := by
    unfold State.leasedAtEnd
    dsimp only
    rw [taken, if_neg Bool.false_ne_true, State.leaseWork_frame]
    dsimp only
    split
    · rfl
    · rw [State.evict_frame]
  rw [State.finishMember_eq]
  split
  · exact .inr Table.cleared_wf
  · refine .inl ?_
    rw [State.actOnExhaustion_of_lt, State.raiseRosterFor_frame]
    · exact station
    · rw [State.raiseRosterFor_frame]
      intro e he
      change e.retries < (s.leasedAtEnd before own obs).config.retry.toNat
      rw [limit]
      rcases Outbound.Fails0.leasedAtEnd s before own obs taken e he with old | zero
      · exact retries e old
      · have := (h.config.bounds states.2).2.2.2.2
        rw [zero]
        exact lt_of_lt_of_le (by norm_num) this

/-! ### The frame end (R47) -/

/-- R47, R128: the state in which the outcome of a frame is handed on: a clash is found, and a lost attempt has ended. -/
def State.settledFrame (c : FrameCells) (s : State) : State :=
  ((s.clashFound c).loseUnlessOwn c).closeFrame

/-- R47: the outcome of a frame handed on, by the station state. -/
def State.handOn (own : Bool) (obs : FrameObs) (s : State) : State :=
  match s.station with
  | .synced => s.memberFrameEnd own obs
  | .syncing => s.memberFrameEnd own obs
  | .joining => s.joiningFrameEnd own obs
  | .halted => s
  | .parked => s
  | .listen => s
  | .config => s

theorem State.frameEnd_eq {s : State} {obs : FrameObs} (frame : s.line.tracking = .frame) :
    s.frameEnd obs = (s.settledFrame obs.cells).handOn
      (((s.clashFound obs.cells).loseUnlessOwn obs.cells).ownAttempt obs.cells) obs :=
  if_pos frame

theorem State.handOn_member {s : State} (own : Bool) (obs : FrameObs) (tracks : s.station.tracksCensus = true) :
    s.handOn own obs = s.memberFrameEnd own obs := by
  unfold State.handOn
  cases x : s.station <;> simp [x, StationState.tracksCensus] at tracks ⊢

theorem State.handOn_joining {s : State} (own : Bool) (obs : FrameObs) (joining : s.station = .joining) :
    s.handOn own obs = s.joiningFrameEnd own obs := by
  simp [State.handOn, joining]

theorem State.handOn_other {s : State} (own : Bool) (obs : FrameObs) (tracks : s.station.tracksCensus = false)
    (joining : s.station ≠ .joining) : s.handOn own obs = s := by
  unfold State.handOn
  cases x : s.station <;> simp [x, StationState.tracksCensus] at tracks joining ⊢

/-- R60, R128: what is settled before the outcome: nothing that fails an attempt, or a halt. -/
theorem State.settledFrame_cases (c : FrameCells) (s : State) :
    s.Minor (s.settledFrame c) ∨
      (s.station.mayDrive = true ∧ ((s.endAttempt false).halt .clash).SameCell (s.settledFrame c)) := by
  have lose : ∀ u : State, u.Minor (u.loseUnlessOwn c).closeFrame := fun u => by
    obtain ⟨-, h⟩ | ⟨-, h⟩ := u.loseUnlessOwn_cases c <;> rw [h]
    · exact .of_eq rfl rfl rfl rfl rfl rfl
    · exact (State.Minor.endUncounted u).trans (.of_eq rfl rfl rfl rfl rfl rfl)
  unfold State.settledFrame
  obtain ⟨-, h⟩ | ⟨clash, h⟩ := s.clashFound_cases c <;> rw [h]
  · exact .inl (lose s)
  · exact .inr ⟨State.mayDrive_of_clashes clash, (lose _).toSameCell⟩

/-- R26, R100: the content of a frame leaves the station in its state, or installs a table, or is the own LEAVE. -/
theorem State.applyContent_station (s : State) (sender : Nat) (f : Frame) (standing : StationSet) :
    s.applyContent sender f standing = s.ownLeaveTaken ∨
      (s.applyContent sender f standing).config = s.config ∧
      ((s.applyContent sender f standing).station = s.station ∨
        (s.station = .syncing ∧ (s.applyContent sender f standing).station = .synced)) := by
  rcases s.applyContent_cases sender f standing with ⟨_, -, x⟩ | ⟨p, -, x⟩ | ⟨_, _, _, -, -, x⟩ | ⟨_, -, -, x⟩ |
    ⟨_, -, -, x⟩ | ⟨-, -, x⟩ | ⟨-, -, x⟩ | x <;> rw [x]
  · rw [State.joinTaken_frame]; exact .inr ⟨rfl, .inl rfl⟩
  · rw [State.censusTaken_frame]
    by_cases h : s.installs p
    · exact .inr ⟨rfl, .inr ⟨h.1, if_pos h⟩⟩
    · exact .inr ⟨rfl, .inl (if_neg h)⟩
  · rw [State.claimTaken_frame]; exact .inr ⟨rfl, .inl rfl⟩
  · rw [State.dropTaken_frame]; exact .inr ⟨rfl, .inl rfl⟩
  · rw [State.expireTaken_frame]; exact .inr ⟨rfl, .inl rfl⟩
  · exact .inl rfl
  · rw [State.leaveTaken_frame]; exact .inr ⟨rfl, .inl rfl⟩
  · exact .inr ⟨rfl, .inl rfl⟩

theorem Outbound.Fails0.applyTaken (s : State) (own : Bool) (c : FrameCells) (standing : StationSet) :
    s.outbound.Fails0 (s.applyTaken own c standing).outbound := by
  obtain ⟨u, cases_u, e⟩ := s.applyTaken_cases own c standing
  have entry : s.outbound.Fails0 (s.entryTaken own).outbound := by
    unfold State.entryTaken
    rw [State.stepSequence_frame]
    cases own
    · exact .refl _
    · exact .takeEntry s
  have content : s.outbound.Fails0 u.outbound := by
    obtain ⟨-, rfl⟩ | ⟨f, -, rfl⟩ := cases_u
    · exact entry
    · exact entry.trans (.applyContent _ _ _ _)
  rw [e]
  split
  · exact content.trans (.settleTaken _ _)
  · exact content

/-- R26, R100: a TAKEN frame parks the station, all of its cell given up, or leaves it in its state or with a table
installed. -/
theorem State.CoreFits.applyTaken_station {s : State} (h : s.CoreFits) (left : s.station ≠ .config) (own : Bool)
    (c : FrameCells) (standing : StationSet) :
    ((s.applyTaken own c standing).CellGood ∧ (s.applyTaken own c standing).station = .parked) ∨
      (s.applyTaken own c standing).config = s.config ∧
      ((s.applyTaken own c standing).station = s.station ∨
        (s.station = .syncing ∧ (s.applyTaken own c standing).station = .synced)) := by
  obtain ⟨u, cases_u, e⟩ := s.applyTaken_cases own c standing
  have entry := h.entryTaken own
  have frame : (s.entryTaken own).station = s.station ∧ (s.entryTaken own).config = s.config := by
    rw [State.entryTaken_frame]; exact ⟨rfl, rfl⟩
  have content : (u.CellGood ∧ u.station = .parked) ∨
      u.config = s.config ∧ (u.station = s.station ∨ (s.station = .syncing ∧ u.station = .synced)) := by
    obtain ⟨-, rfl⟩ | ⟨f, -, rfl⟩ := cases_u
    · exact .inr ⟨frame.2, .inl frame.1⟩
    · obtain leave | stays := (s.entryTaken own).applyContent_station c.sender f standing
      · exact .inl ⟨leave ▸ entry.ownLeaveTaken (frame.1 ▸ left), by rw [leave]; rfl⟩
      · rw [frame.1, frame.2] at stays; exact .inr stays
  have after : u.SameCell (s.applyTaken own c standing) := by
    rw [e]
    split
    · exact .settleTaken u _
    · exact .of_eq rfl rfl rfl rfl rfl
  rw [after.station, after.config]
  exact content.imp_left fun ⟨good, parked⟩ => ⟨good.same after, parked⟩

theorem State.CellInv.memberFrameEnd {s : State} (h : s.CellInv) (tracks : s.station.tracksCensus = true) (own : Bool)
    (obs : FrameObs) :
    (s.memberFrameEnd own obs).CellFits ∧ s.WfOrInstalled (s.memberFrameEnd own obs) := by
  have left : s.station ≠ .config := fun c => by simp [c, StationState.tracksCensus] at tracks
  have counted : (s.countMisses obs.rollCall).CellInv := h.minor (.of_eq rfl rfl rfl rfl rfl rfl)
  set u := s.countMisses obs.rollCall
  have finished : ∀ v : State, v.CoreFits → v.station.tracksCensus = true → s.WfOrInstalled (v.finishMember s own obs) →
      ((if v.station = .parked then v else v.finishMember s own obs).CellFits ∧
        s.WfOrInstalled (if v.station = .parked then v else v.finishMember s own obs)) := fun v core stays wf => by
    rw [if_neg fun c => by rw [c] at stays; contradiction]
    exact ⟨core.finishMember stays s own obs, wf⟩
  have all : ∀ v, v = (if obs.taken then u.applyTaken own obs.cells obs.standing else u) →
      ((if v.station = .parked then v else v.finishMember s own obs).CellFits ∧
        s.WfOrInstalled (if v.station = .parked then v else v.finishMember s own obs)) := by
    rintro v rfl
    cases taken : obs.taken
    · rw [if_neg Bool.false_ne_true]
      exact finished u counted.toCoreFits tracks (.inl (State.finishMember_wf counted.wf))
    · rw [if_pos rfl]
      obtain ⟨good, parked⟩ | ⟨config, station⟩ := counted.toCoreFits.applyTaken_station left own obs.cells obs.standing
      · rw [if_pos parked]; exact ⟨good.1, .inl good.2⟩
      · have stays : (u.applyTaken own obs.cells obs.standing).station.tracksCensus = true := by
          rcases station with same | ⟨-, synced⟩
          · rw [same]; exact tracks
          · rw [synced]; rfl
        have core := counted.toCoreFits.applyTaken left own obs.cells obs.standing
        refine finished _ core stays ?_
        obtain wf | ⟨syncing, synced⟩ :=
          State.applyTaken_wf counted.wf (counted.config.bounds left).2.2.1 own obs.cells obs.standing
        · exact .inl (State.finishMember_wf wf)
        · obtain same | wf := core.finishMember_station (before := s) (own := own) (obs := obs) stays (by simp [taken])
            fun e he => by
              rw [State.retryLimit, config]
              rcases Outbound.Fails0.applyTaken _ own obs.cells obs.standing e he with old | zero
              · exact counted.retries e old
              · rw [zero]
                exact lt_of_lt_of_le (by norm_num) (counted.config.bounds left).2.2.2.2
          · exact .inr ⟨syncing, same.trans synced⟩
          · exact .inl wf
  obtain ⟨fits, wf⟩ := all _ rfl
  unfold State.memberFrameEnd
  dsimp only
  rw [State.raiseForeignFor_frame]
  exact ⟨fits.same (.of_eq rfl rfl rfl rfl rfl), wf⟩

theorem State.CellInv.joiningFrameEnd {s : State} (h : s.CellInv) (joining : s.station = .joining) (own : Bool)
    (obs : FrameObs) : (s.joiningFrameEnd own obs).CellGood := by
  have left : s.station ≠ .config := by simp [joining]
  have clear : s.table = Table.cleared := h.place (by simp [joining, StationState.holdsTable])
  have none_leased : s.lease.leases = [] := by simpa [joining] using h.leases.1
  have entered : ∀ t : State, t.station = .synced ∨ t.station = .syncing → t.config = s.config → t.table = s.table →
      t.slots = s.slots → t.lease.leases = s.lease.leases → t.CellGood := fun t station config table slots leases => by
    obtain ⟨count, each, -⟩ := h.slots
    have away : t.station ≠ .config := by rcases station with x | x <;> simp [x]
    refine ⟨{ slots := ⟨slots ▸ count, fun b hb => ?_, fun c => absurd c away⟩
              place := fun _ => table.trans clear, config := fun _ => config ▸ h.config left
              leases := ⟨?_, fun l hl => ?_⟩ }, table ▸ h.wf⟩
    · rw [State.zoneCount, config]; exact each b (slots ▸ hb)
    · rw [leases, none_leased, table, clear]
      simp [Table.countOf_cleared, setOf]
    · simp [leases, none_leased] at hl
  unfold State.joiningFrameEnd
  split
  · split
    · rw [State.takeEntry_frame]
      unfold State.ownJoinTaken
      dsimp only
      split
      · exact entered _ (.inl rfl) rfl rfl rfl rfl
      · refine entered _ (.inr ?_) ?_ ?_ ?_ ?_ <;> rw [State.resetRun_frame] <;> rfl
    · have ended := State.SameCell.endAttempt s true
      exact (h.good.same ended).actOnExhaustion fun c => h.idle_endAttempt true (ended.station ▸ c)
  · exact h.good

/-- R47: what a frame end leaves of the cell. -/
theorem State.CellInv.frameEnd {s : State} (h : s.CellInv) (obs : FrameObs) :
    (s.frameEnd obs).CellFits ∧ s.WfOrInstalled (s.frameEnd obs) := by
  have keep : ∀ t : State, t.CellGood → t.CellFits ∧ s.WfOrInstalled t := fun t good => ⟨good.1, .inl good.2⟩
  by_cases frame : s.line.tracking = .frame
  case neg => rw [State.frameEnd, if_neg frame]; exact keep s h.good
  rw [State.frameEnd_eq frame]
  obtain settled | ⟨drives, halted⟩ := s.settledFrame_cases obs.cells
  · have closed := h.minor settled
    cases tracks : (s.settledFrame obs.cells).station.tracksCensus
    case true =>
      have kept := closed.memberFrameEnd tracks
        (((s.clashFound obs.cells).loseUnlessOwn obs.cells).ownAttempt obs.cells) obs
      rw [State.handOn_member _ _ tracks]
      rwa [State.WfOrInstalled, settled.station] at kept
    by_cases joining : (s.settledFrame obs.cells).station = .joining
    · rw [State.handOn_joining _ _ joining]
      exact keep _ (closed.joiningFrameEnd joining _ obs)
    · rw [State.handOn_other _ _ tracks joining]
      exact keep _ closed.good
  · have ended := State.SameCell.endAttempt s false
    have good := ((h.good.same ended).halt (ended.station ▸ StationState.mayDrive_ne_config drives) .clash).same halted
    have station : (s.settledFrame obs.cells).station = .halted := halted.station
    rw [State.handOn_other _ _ (by rw [station]; rfl) (by simp [station])]
    exact keep _ good

/-! ### Every step -/

/-- What every step leaves of the cell. -/
theorem State.Inv.step_cell {s t : State} (h : s.Inv) (run : step s = .next t) : t.CellFits ∧ s.WfOrInstalled t := by
  obtain ⟨u, obs, minor, same⟩ | good := h.cellInv.step run
  · obtain ⟨fits, wf⟩ := (h.cellInv.minor minor).frameEnd obs
    refine ⟨fits.same same, ?_⟩
    rwa [State.WfOrInstalled, same.table, same.station, ← minor.station]
  · exact ⟨good.1, .inl good.2⟩

/-- Settles O55: a step leaves the table, clears it, or ends a frame, whose operations keep it well formed. -/
theorem tableInvariantKept : Obligations.TableInvariantKept := by
  unfold Obligations.TableInvariantKept
  intro s t inv run installed
  obtain wf | ⟨syncing, synced⟩ := (inv.step_cell run).2
  · exact wf
  · exact installed syncing synced

/-- Settles O56: a step leaves the cell as it stands, gives it up, or ends a frame, after which the lease unit has a lease for
every other owner of records. -/
theorem slotsAndPlacesKept : Obligations.SlotsAndPlacesKept := by
  unfold Obligations.SlotsAndPlacesKept
  intro s t inv run
  obtain ⟨⟨⟨slots, place, config⟩, leases⟩, -⟩ := inv.step_cell run
  exact ⟨slots, place, config, leases⟩

end Sys2Proof.Machine
end

section
/-! SUPPORT. Sets of station numbers, the roster and the designated sender (R49, R51, R52, R54, R82). -/

namespace Sys2Proof.Machine

set_option Elab.async false

/-! ### Sets of station numbers -/

theorem mem_setOf {p : Nat → Bool} {k : Nat} : k ∈ setOf p ↔ k < Config.stationNumbers ∧ p k = true := by
  simp [setOf]

theorem contains_setOf (p : Nat → Bool) (k : Nat) :
    (setOf p).contains k = (decide (k < Config.stationNumbers) && p k) := by
  rw [Bool.eq_iff_iff, List.contains_iff_mem, mem_setOf]
  simp

theorem setOf_congr {p q : Nat → Bool} (h : ∀ k, k < Config.stationNumbers → p k = q k) : setOf p = setOf q :=
  List.filter_congr fun k hk => h k (List.mem_range.mp hk)

theorem filter_setOf (p q : Nat → Bool) : (setOf p).filter q = setOf fun k => p k && q k := by
  simp [setOf, List.filter_filter, Bool.and_comm]

theorem nodup_setOf (p : Nat → Bool) : (setOf p).Nodup := List.nodup_range.filter _

/-- A set in its listing: ascending and without repeats. -/
abbrev StationSet.Listed (a : StationSet) : Prop :=
  a = setOf fun k => a.contains k

theorem StationSet.listed_setOf (p : Nat → Bool) : StationSet.Listed (setOf p) := by
  refine setOf_congr fun k hk => ?_
  rw [contains_setOf]
  simp [hk]

theorem StationSet.Listed.lt {a : StationSet} (h : StationSet.Listed a) {k : Nat} (hk : k ∈ a) : k < Config.stationNumbers :=
  (mem_setOf.mp (h ▸ hk)).1

theorem StationSet.Listed.nodup {a : StationSet} (h : StationSet.Listed a) : a.Nodup := h ▸ nodup_setOf _

theorem StationSet.Listed.filter {a : StationSet} (h : StationSet.Listed a) (p : Nat → Bool) :
    StationSet.Listed (a.filter p) := by
  rw [h, filter_setOf]
  exact StationSet.listed_setOf _

/-- Two listed sets with the same members are the same. -/
theorem StationSet.Listed.ext {a b : StationSet} (ha : StationSet.Listed a) (hb : StationSet.Listed b)
    (h : ∀ k, k ∈ a ↔ k ∈ b) : a = b := by
  rw [ha, hb]
  refine setOf_congr fun k _ => ?_
  rw [Bool.eq_iff_iff, List.contains_iff_mem, List.contains_iff_mem, h]

/-- The lowest number of a listed set is the first. -/
theorem StationSet.Listed.min?_eq_head? {a : StationSet} (h : StationSet.Listed a) : a.min? = a.head? := by
  refine List.min?_eq_head? ?_
  rw [h]
  refine List.Pairwise.sublist List.filter_sublist (List.Pairwise.imp ?_ (List.pairwise_lt_range (n := Config.stationNumbers)))
  intro i j lt
  exact Nat.min_eq_left (Nat.le_of_lt lt)

/-! ### The roster (R49, R51, R52, R54) -/

@[simp] theorem RosterUnit.countMisses_roster (r : RosterUnit) (rollCall : StationSet) :
    (r.countMisses rollCall).roster = r.roster := by
  simp [RosterUnit.countMisses, RosterUnit.roster, Function.comp_def]

@[simp] theorem RosterUnit.enrol_roster (r : RosterUnit) (j : Nat) : (r.enrol j).roster = setInsert j r.roster := by
  simp [RosterUnit.enrol, RosterUnit.roster, Function.comp_def]

@[simp] theorem RosterUnit.drop_roster (r : RosterUnit) (gone : StationSet) :
    (r.drop gone).roster = r.roster.filter fun k => !gone.contains k := by
  simp [RosterUnit.drop, RosterUnit.roster, List.filter_map, Function.comp_def]

/-- R49: the miss count of a member in a roster that lists each number once. -/
theorem RosterUnit.missesOf_of_mem {r : RosterUnit} (h : r.roster.Nodup) {m : Member} (hm : m ∈ r.members) :
    r.missesOf m.number = m.misses := by
  have found : r.members.find? (fun x => x.number == m.number) = some m := by
    unfold RosterUnit.roster at h
    generalize r.members = members at h hm
    induction members with
    | nil => exact absurd hm List.not_mem_nil
    | cons x l ih =>
      rw [List.map_cons, List.nodup_cons] at h
      rcases List.mem_cons.mp hm with rfl | hm
      · simp
      · have other : x.number ≠ m.number := fun e => h.1 (e ▸ List.mem_map_of_mem hm)
        rw [List.find?_cons_of_neg (by simpa using other)]
        exact ih h.2 hm
  simp [RosterUnit.missesOf, found]

theorem RosterUnit.missesOf_drop (r : RosterUnit) {gone : StationSet} {k : Nat} (h : k ∉ gone) :
    (r.drop gone).missesOf k = r.missesOf k := by
  have same : (r.members.filter fun m => !gone.contains m.number).find? (fun m => m.number == k) =
      r.members.find? fun m => m.number == k := by
    rw [List.find?_filter]
    congr 1
    funext m
    by_cases e : m.number = k
    · simp [e, h]
    · simp [e]
  exact congrArg (fun x => (Option.map Member.misses x).getD 0) same

/-- R49: the miss count of a number that every member of that number has. -/
theorem RosterUnit.missesOf_zero {r : RosterUnit} (h : ∀ m ∈ r.members, m.misses = 0) (k : Nat) : r.missesOf k = 0 := by
  unfold RosterUnit.missesOf
  cases found : r.members.find? fun m => m.number == k with
  | none => rfl
  | some m => exact h m (List.mem_of_find?_eq_some found)

/-! ### The designated sender (R82) -/

/-- R82: the census state with its designated sender computed anew from a roster and a synced set. -/
def Census.redesignated (c : Census) (roster synced : StationSet) : Census :=
  if c.freeze then
    { c with
      passOver := passOverFor (candidatePool roster synced) c.passOver
      designated := lowestCandidate (candidatePool roster synced) (passOverFor (candidatePool roster synced) c.passOver) }
  else { c with designated := none }

theorem State.redesignate_eq (s : State) :
    s.redesignate = { s with census := s.census.redesignated s.roster.roster s.roster.synced } := by
  unfold State.redesignate Census.redesignated
  split <;> rfl

theorem State.resetRun_census (s : State) :
    s.resetRun.census =
      ({ s.census with progress := 0, runCount := none } : Census).redesignated s.roster.roster s.roster.synced := by
  rw [State.resetRun_frame, State.redesignate_eq]

theorem State.joinTaken_census (j : Nat) (pass : Bool) (standing : StationSet) (s : State) :
    (s.joinTaken j pass standing).census =
      ({ s.census with
        joiners := ((s.roster.enrol j).relearn standing).owed
        passOver := s.census.passedOver (pass && s.census.joiners.contains j)
        progress := 0
        runCount := none } : Census).redesignated ((s.roster.enrol j).relearn standing).roster
          ((s.roster.enrol j).relearn standing).synced := by
  unfold State.joinTaken
  dsimp only
  rw [State.resetRun_census]

theorem State.leaveTaken_census (sender : Nat) (s : State) :
    (s.leaveTaken sender).census =
      s.census.redesignated (s.roster.drop [sender]).roster (s.roster.drop [sender]).synced := by
  unfold State.leaveTaken
  dsimp only
  rw [State.keepCensusEntry_frame, State.redesignate_eq, State.removeRecords_frame]

/-- R52, R93: the census state without the evicted in its sets. -/
def Census.without (c : Census) (gone : StationSet) : Census :=
  { c with joiners := setDiff c.joiners gone, passOver := setDiff c.passOver gone }

/-- R91, R93: the census state when the census ends. -/
def Census.ended (c : Census) : Census :=
  { c with joiners := [], passOver := [], progress := 0, runCount := none, designated := none }

theorem State.evict_census (gone : StationSet) (s : State) :
    (s.evict gone).census =
      if s.census.freeze then
        if (s.census.without gone).freeze then
          ({ s.census.without gone with progress := 0, runCount := none } : Census).redesignated (s.roster.drop gone).roster
            (s.roster.drop gone).synced
        else (s.census.without gone).ended
      else (s.census.without gone).redesignated (s.roster.drop gone).roster (s.roster.drop gone).synced := by
  unfold State.evict
  rw [State.removeRecords_frame]
  dsimp only
  split
  · change (if (s.census.without gone).freeze = true then _ else _ : State).census = _
    split
    · rw [State.resetRun_census]; rfl
    · rw [State.progressChanged_frame]; rfl
  · rw [State.redesignate_eq]; rfl

/-- R89: the census state after a part that is not the last of its run. -/
def State.partTaken (s : State) (p : Part) : Census :=
  { s.census with
    progress := s.census.progress + 1
    runCount := s.census.countAfter p
    staging := if s.station = .syncing then s.census.stage p else [] }

/-- R89, R91, R92: the census state after a part. -/
theorem State.censusTaken_census (p : Part) (s : State) :
    (s.censusTaken p).census =
      if some (s.census.progress + 1) = s.census.countAfter p then
        if s.station = .syncing then { (s.partTaken p).ended with staging := [] } else (s.partTaken p).ended
      else s.partTaken p := by
  unfold State.censusTaken State.partTaken
  by_cases syncing : s.station = .syncing
  · simp only [syncing, if_true]
    split
    · rfl
    · rw [State.progressChanged_frame]
  · simp only [syncing, if_false]
    split
    · rfl
    · rw [State.progressChanged_frame]

/-- R91: the synced set after a part. -/
theorem State.censusTaken_synced (p : Part) (s : State) :
    (s.censusTaken p).roster.synced =
      if some (s.census.progress + 1) = s.census.countAfter p then
        setUnion s.roster.synced (setInter s.census.joiners s.roster.roster)
      else s.roster.synced := by
  unfold State.censusTaken
  dsimp only
  split
  · split <;> rfl
  · rw [State.progressChanged_frame]

end Sys2Proof.Machine
end

section
/-! Two stations of one cell (R13, R47, R82): what a frame end does to table, census state, members and synced set depends on
these, on R, Z and E, and on the frame alone. -/

namespace Sys2Proof.Machine

set_option Elab.async false

/-- Two stations hold the same cell: the same table, census state, members with their miss counts and synced set, in one
station state, with the same R, Z and E. -/
structure State.Agrees (a b : State) : Prop where
  station : a.station = b.station
  table : a.table = b.table
  census : a.census = b.census
  members : a.roster.members = b.roster.members
  synced : a.roster.synced = b.roster.synced
  rosterSlots : a.rosterSlots = b.rosterSlots
  zoneCount : a.zoneCount = b.zoneCount
  evictAt : a.evictAt = b.evictAt

theorem State.Agrees.symm {a b : State} (h : a.Agrees b) : b.Agrees a :=
  ⟨h.station.symm, h.table.symm, h.census.symm, h.members.symm, h.synced.symm, h.rosterSlots.symm, h.zoneCount.symm,
    h.evictAt.symm⟩

theorem State.Agrees.trans {a b c : State} (h : a.Agrees b) (g : b.Agrees c) : a.Agrees c :=
  ⟨h.station.trans g.station, h.table.trans g.table, h.census.trans g.census, h.members.trans g.members,
    h.synced.trans g.synced, h.rosterSlots.trans g.rosterSlots, h.zoneCount.trans g.zoneCount, h.evictAt.trans g.evictAt⟩

theorem State.Agrees.refl (a : State) : a.Agrees a := ⟨rfl, rfl, rfl, rfl, rfl, rfl, rfl, rfl⟩

/-- An operation that leaves all of this. -/
theorem State.Agrees.of_eq {s t : State} (station : t.station = s.station) (config : t.config = s.config)
    (table : t.table = s.table) (census : t.census = s.census) (roster : t.roster = s.roster) : s.Agrees t := by
  constructor <;> simp only [State.rosterSlots, State.zoneCount, State.evictAt, station, config, table, census, roster]

theorem State.Agrees.roster {a b : State} (h : a.Agrees b) : a.roster.roster = b.roster.roster :=
  congrArg (List.map Member.number) h.members

/-! ### The operations of a frame end -/

theorem State.Agrees.endAttempt (s : State) (counted : Bool) : s.Agrees (s.endAttempt counted) := by
  rw [State.endAttempt_frame]
  exact .of_eq rfl rfl rfl rfl rfl

theorem State.Agrees.leaseWork (s : State) (renewed expired : Option Nat) (own frozen : Bool) :
    s.Agrees (s.leaseWork renewed expired own frozen) := by
  rw [State.leaseWork_frame]
  exact .of_eq rfl rfl rfl rfl rfl

theorem State.Agrees.settleTaken (s : State) (gone : Option Entry) : s.Agrees (s.settleTaken gone) := by
  rw [State.settleTaken_frame]
  exact .of_eq rfl rfl rfl rfl rfl

theorem State.Agrees.countMisses {a b : State} (h : a.Agrees b) (rollCall : StationSet) :
    (a.countMisses rollCall).Agrees (b.countMisses rollCall) :=
  { h with members := by simp only [State.countMisses_roster, RosterUnit.countMisses, h.members] }

/-- R8: whether or not the frame was a station's own, the sequence number steps at both. -/
theorem State.Agrees.entryTaken {a b : State} (h : a.Agrees b) (x y : Bool) : (a.entryTaken x).Agrees (b.entryTaken y) := by
  rw [State.entryTaken_frame, State.entryTaken_frame y b]
  exact { h with table := by simp only [h.station, h.table] }

theorem State.Agrees.evict {a b : State} (h : a.Agrees b) (gone : StationSet) : (a.evict gone).Agrees (b.evict gone) := by
  have members : (a.roster.drop gone).members = (b.roster.drop gone).members := by
    simp only [RosterUnit.drop, h.members]
  have synced : (a.roster.drop gone).synced = (b.roster.drop gone).synced := by simp only [RosterUnit.drop, h.synced]
  have roster : (a.roster.drop gone).roster = (b.roster.drop gone).roster := congrArg (List.map Member.number) members
  have census : (a.evict gone).census = (b.evict gone).census := by
    rw [State.evict_census, State.evict_census, h.census, roster, synced]
  rw [State.evict_frame gone a] at census ⊢
  rw [State.evict_frame gone b] at census ⊢
  exact { h with table := by simp only [h.table], census := census, members := members, synced := synced }

theorem State.Agrees.joinTaken {a b : State} (h : a.Agrees b) (j : Nat) (pass : Bool) (standing : StationSet) :
    (a.joinTaken j pass standing).Agrees (b.joinTaken j pass standing) := by
  have misses : a.roster.missesOf = b.roster.missesOf := by
    funext k; simp only [RosterUnit.missesOf, h.members]
  have members : ((a.roster.enrol j).relearn standing).members = ((b.roster.enrol j).relearn standing).members := by
    simp only [RosterUnit.relearn, RosterUnit.enrol, h.roster, misses]
  have roster : (a.roster.enrol j).roster = (b.roster.enrol j).roster := congrArg (List.map Member.number) members
  have synced : ((a.roster.enrol j).relearn standing).synced = ((b.roster.enrol j).relearn standing).synced := by
    simp only [RosterUnit.relearn, roster]
  have owed : ((a.roster.enrol j).relearn standing).owed = ((b.roster.enrol j).relearn standing).owed := by
    simp only [RosterUnit.owed, synced]
    exact congrArg (setDiff · _) roster
  have census : (a.joinTaken j pass standing).census = (b.joinTaken j pass standing).census := by
    rw [State.joinTaken_census, State.joinTaken_census, h.census, owed, synced]
    exact congrArg (Census.redesignated _ · _) roster
  have rejoins : a.rejoins j ↔ b.rejoins j := by
    simp only [State.rejoins, State.isMember, h.station, h.roster]
  rw [State.joinTaken_frame] at census ⊢
  rw [State.joinTaken_frame j pass standing b] at census ⊢
  exact { h with
    table := by simp only [rejoins, h.table], census := census, members := members, synced := synced }

theorem State.Agrees.leaveTaken {a b : State} (h : a.Agrees b) (sender : Nat) :
    (a.leaveTaken sender).Agrees (b.leaveTaken sender) := by
  have members : (a.roster.drop [sender]).members = (b.roster.drop [sender]).members := by
    simp only [RosterUnit.drop, h.members]
  have synced : (a.roster.drop [sender]).synced = (b.roster.drop [sender]).synced := by
    simp only [RosterUnit.drop, h.synced]
  have roster : (a.roster.drop [sender]).roster = (b.roster.drop [sender]).roster := congrArg (List.map Member.number) members
  have census : (a.leaveTaken sender).census = (b.leaveTaken sender).census := by
    rw [State.leaveTaken_census, State.leaveTaken_census, h.census, roster, synced]
  rw [State.leaveTaken_frame] at census ⊢
  rw [State.leaveTaken_frame sender b] at census ⊢
  exact { h with table := by simp only [h.table], census := census, members := members, synced := synced }

theorem State.Agrees.censusTaken {a b : State} (h : a.Agrees b) (p : Part) : (a.censusTaken p).Agrees (b.censusTaken p) := by
  have census : (a.censusTaken p).census = (b.censusTaken p).census := by
    simp only [State.censusTaken_census, State.partTaken, h.census, h.station]
  have synced : (a.censusTaken p).roster.synced = (b.censusTaken p).roster.synced := by
    simp only [State.censusTaken_synced, h.census, h.synced, h.roster]
  have installs : a.installs p ↔ b.installs p := by simp only [State.installs, h.station, h.census]
  rw [State.censusTaken_frame] at census synced ⊢
  rw [State.censusTaken_frame p b] at census synced ⊢
  exact { h with
    station := by simp only [installs, h.station], table := by simp only [installs, h.table, h.census]
    census := census, synced := synced }

/-- R13, R47: the content of a frame, which at neither station is its own LEAVE. -/
theorem State.Agrees.applyContent {a b : State} (h : a.Agrees b) (sender : Nat) (f : Frame) (standing : StationSet)
    (ha : (a.applyContent sender f standing).station ≠ .parked) (hb : (b.applyContent sender f standing).station ≠ .parked) :
    (a.applyContent sender f standing).Agrees (b.applyContent sender f standing) := by
  cases f with
  | join pass => exact h.joinTaken _ _ _
  | census p => exact h.censusTaken p
  | pulse => exact h
  | claim tag m zones =>
    simp only [State.applyContent, h.station]
    split
    · rw [State.claimTaken_frame, State.claimTaken_frame sender tag m zones b]
      exact { h with table := by simp only [h.table] }
    · exact h
  | drop tag =>
    simp only [State.applyContent, h.station]
    split
    · rw [State.dropTaken_frame, State.dropTaken_frame sender tag b]
      exact { h with table := by simp only [h.table] }
    · exact h
  | expire target =>
    simp only [State.applyContent, h.station]
    split
    · rw [State.expireTaken_frame, State.expireTaken_frame target b]
      exact { h with table := by simp only [h.table] }
    · exact h
  | leave =>
    have stays : ∀ s : State, (s.applyContent sender .leave standing).station ≠ .parked →
        s.applyContent sender .leave standing = s.leaveTaken sender := fun s hs => by
      by_cases own : sender = s.own
      · exact absurd (by simp only [State.applyContent, if_pos own]; rfl) hs
      · simp only [State.applyContent, if_neg own]
    rw [stays a ha, stays b hb]
    exact h.leaveTaken sender

theorem State.Agrees.applyTaken {a b : State} (h : a.Agrees b) (x y : Bool) (c : FrameCells) (standing : StationSet)
    (ha : (a.applyTaken x c standing).station ≠ .parked) (hb : (b.applyTaken y c standing).station ≠ .parked) :
    (a.applyTaken x c standing).Agrees (b.applyTaken y c standing) := by
  have content : a.content c = b.content c := by
    simp only [State.content, State.parse, h.rosterSlots, h.zoneCount]
  have settled : ∀ (s : State) (own : Bool) (gone : Option Entry), s.Agrees (if own then s.settleTaken gone else s) := by
    intro s own gone
    split
    · exact .settleTaken s gone
    · exact .refl s
  obtain ⟨u, cases_u, ea⟩ := a.applyTaken_cases x c standing
  obtain ⟨v, cases_v, eb⟩ := b.applyTaken_cases y c standing
  rw [ea] at ha ⊢
  rw [eb] at hb ⊢
  have entries := h.entryTaken x y
  refine (settled u x _).symm.trans (State.Agrees.trans ?_ (settled v y _))
  rw [← (settled u x _).station] at ha
  rw [← (settled v y _).station] at hb
  obtain ⟨none_a, rfl⟩ | ⟨f, some_a, rfl⟩ := cases_u
  · obtain ⟨-, rfl⟩ | ⟨_, some_b, -⟩ := cases_v
    · exact entries
    · rw [← content, none_a] at some_b; contradiction
  · obtain ⟨none_b, -⟩ | ⟨_, some_b, rfl⟩ := cases_v
    · rw [content, none_b] at some_a; contradiction
    · obtain rfl := Option.some.inj ((some_a.symm.trans content).trans some_b)
      exact entries.applyContent _ _ _ ha hb

/-! ### Evictions -/

/-- R52, R53: a station whose own miss count is short of E evicts every member whose miss count is not. -/
theorem State.toEvict_eq {s : State} (h : s.roster.roster.Nodup) (short : s.roster.missesOf s.own < s.evictAt) :
    s.toEvict = (s.roster.members.filter fun m => decide (s.evictAt ≤ m.misses)).map Member.number := by
  unfold State.toEvict
  congr 1
  refine List.filter_congr fun m hm => ?_
  by_cases own : m.number = s.own
  · rw [← own, RosterUnit.missesOf_of_mem h hm] at short
    simp [own, short]
  · simp [own]

theorem State.own_notMem_toEvict (s : State) : s.own ∉ s.toEvict := by
  simp only [State.toEvict, List.mem_map, List.mem_filter, Bool.and_eq_true, decide_eq_true_eq, bne_iff_ne]
  rintro ⟨m, ⟨-, other, -⟩, own⟩
  exact other own

/-- R53, R114: a member that is SYNCED after the rest of a frame end was short of E misses of its own, and its cell is as the
evictions left it. -/
theorem State.finishMember_synced {s before : State} {own : Bool} {obs : FrameObs}
    (h : (s.finishMember before own obs).station = .synced) :
    s.roster.missesOf s.own < s.evictAt ∧
      (if s.toEvict.isEmpty then s else s.evict s.toEvict).Agrees (s.finishMember before own obs) := by
  set evicted := if s.toEvict.isEmpty then s else s.evict s.toEvict with he
  set settled := if own && !obs.taken then evicted.endAttempt true else evicted with hs
  have leased : evicted.Agrees (s.leasedAtEnd before own obs) := by
    have ended : evicted.Agrees settled := by
      rw [hs]
      split
      · exact .endAttempt _ _
      · exact .refl _
    exact ended.trans (.leaseWork settled _ _ _ _)
  have number : (s.leasedAtEnd before own obs).own = s.own := by
    have same : settled.config = s.config := by
      have kept : evicted.config = s.config := by
        rw [he]
        split
        · rfl
        · rw [State.evict_frame]
      rw [hs]
      split
      · rw [State.endAttempt_frame]; exact kept
      · exact kept
    change (settled.leaseWork _ _ _ _).config.station.toNat = s.config.station.toNat
    rw [State.leaseWork_frame]
    exact congrArg (·.station.toNat) same
  have misses : ∀ k, (s.leasedAtEnd before own obs).roster.missesOf k = evicted.roster.missesOf k := fun k => by
    simp only [RosterUnit.missesOf, leased.members]
  have own_misses : evicted.roster.missesOf s.own = s.roster.missesOf s.own := by
    rw [he]
    split
    · rfl
    · rw [State.evict_frame]
      exact RosterUnit.missesOf_drop _ s.own_notMem_toEvict
  have limit : evicted.evictAt = s.evictAt := by
    rw [he]
    split
    · rfl
    · rw [State.evict_frame]; rfl
  rw [State.finishMember_eq, number, misses, own_misses, ← leased.evictAt, limit] at h ⊢
  split at h
  · contradiction
  · rename_i short
    rw [if_neg short]
    refine ⟨Nat.lt_of_not_le short, leased.trans ?_⟩
    have raised : (s.leasedAtEnd before own obs).Agrees
        ((s.leasedAtEnd before own obs).raiseRosterFor (s.rosterDetail before obs)) := by
      rw [State.raiseRosterFor_frame]; exact .of_eq rfl rfl rfl rfl rfl
    obtain ⟨-, x⟩ | ⟨_, -, -, -, x⟩ | ⟨_, -, -, -, x⟩ :=
      ((s.leasedAtEnd before own obs).raiseRosterFor (s.rosterDetail before obs)).actOnExhaustion_cases
    · rw [x]; exact raised
    · rw [x] at h; contradiction
    · rw [x] at h; contradiction

/-- R52: both stations evict the same members. -/
theorem State.Agrees.finishMember {a b : State} (h : a.Agrees b) {before before' : State} {x y : Bool} {obs : FrameObs}
    (nodup : a.roster.roster.Nodup) (ha : (a.finishMember before x obs).station = .synced)
    (hb : (b.finishMember before' y obs).station = .synced) :
    (a.finishMember before x obs).Agrees (b.finishMember before' y obs) := by
  obtain ⟨short_a, agrees_a⟩ := State.finishMember_synced ha
  obtain ⟨short_b, agrees_b⟩ := State.finishMember_synced hb
  refine agrees_a.symm.trans (State.Agrees.trans ?_ agrees_b)
  have gone : a.toEvict = b.toEvict := by
    rw [State.toEvict_eq nodup short_a, State.toEvict_eq (h.roster ▸ nodup) short_b, h.members, h.evictAt]
  rw [gone]
  split
  · exact h
  · exact h.evict _

/-! ### The frame end -/

/-- R49: a TAKEN frame leaves each number once in the roster. -/
theorem State.applyTaken_nodup {s : State} (h : s.roster.roster.Nodup) (own : Bool) (c : FrameCells) (standing : StationSet) :
    (s.applyTaken own c standing).roster.roster.Nodup := by
  obtain ⟨u, cases_u, e⟩ := s.applyTaken_cases own c standing
  have entry : (s.entryTaken own).roster.roster.Nodup := by rw [State.entryTaken_frame]; exact h
  have content : u.roster.roster.Nodup := by
    obtain ⟨-, rfl⟩ | ⟨f, -, rfl⟩ := cases_u
    · exact entry
    · rcases (s.entryTaken own).applyContent_cases c.sender f standing with ⟨_, -, x⟩ | ⟨_, -, x⟩ | ⟨_, _, _, -, -, x⟩ |
        ⟨_, -, -, x⟩ | ⟨_, -, -, x⟩ | ⟨-, -, x⟩ | ⟨-, -, x⟩ | x <;> rw [x]
      · rw [State.joinTaken_frame]
        exact (RosterUnit.enrol_roster _ _).symm ▸ nodup_setOf _
      · rw [State.censusTaken_frame]; exact entry
      · rw [State.claimTaken_frame]; exact entry
      · rw [State.dropTaken_frame]; exact entry
      · rw [State.expireTaken_frame]; exact entry
      · exact List.nodup_nil
      · rw [State.leaveTaken_frame]
        exact (RosterUnit.drop_roster _ _).symm ▸ entry.filter _
      · exact entry
  rw [e]
  split
  · rw [State.settleTaken_frame]; exact content
  · exact content

/-- R47, R53, R100, R114: a member that is SYNCED after a frame end: the rest of it ran, and it did not park. -/
theorem State.memberFrameEnd_synced {s : State} {own : Bool} {obs : FrameObs}
    (h : (s.memberFrameEnd own obs).station = .synced) :
    let applied := if obs.taken then (s.countMisses obs.rollCall).applyTaken own obs.cells obs.standing
      else s.countMisses obs.rollCall
    applied.station ≠ .parked ∧ (applied.finishMember s own obs).station = .synced ∧
      (applied.finishMember s own obs).Agrees (s.memberFrameEnd own obs) := by
  intro applied
  have foreign : ∀ u : State, u.Agrees (u.raiseForeignFor (s.foreignJoin obs.cells) obs.cells.sender) := fun u => by
    rw [State.raiseForeignFor_frame]; exact .of_eq rfl rfl rfl rfl rfl
  have whole : s.memberFrameEnd own obs =
      (if applied.station = .parked then applied else applied.finishMember s own obs).raiseForeignFor
        (s.foreignJoin obs.cells) obs.cells.sender := rfl
  rw [whole] at h ⊢
  rw [← (foreign _).station] at h
  by_cases parked : applied.station = .parked
  · rw [if_pos parked, parked] at h; contradiction
  · rw [if_neg parked] at h ⊢
    exact ⟨parked, h, foreign _⟩

theorem State.Agrees.memberFrameEnd {a b : State} (h : a.Agrees b) (nodup : a.roster.roster.Nodup) {x y : Bool}
    {obs : FrameObs} (ha : (a.memberFrameEnd x obs).station = .synced) (hb : (b.memberFrameEnd y obs).station = .synced) :
    (a.memberFrameEnd x obs).Agrees (b.memberFrameEnd y obs) := by
  obtain ⟨unparked_a, rest_a, agrees_a⟩ := State.memberFrameEnd_synced ha
  obtain ⟨unparked_b, rest_b, agrees_b⟩ := State.memberFrameEnd_synced hb
  refine agrees_a.symm.trans (State.Agrees.trans ?_ agrees_b)
  have counted := h.countMisses obs.rollCall
  have nodup : (a.countMisses obs.rollCall).roster.roster.Nodup := by simpa using nodup
  cases taken : obs.taken
  · simp only [taken, Bool.false_eq_true, if_false] at rest_a rest_b ⊢
    exact counted.finishMember nodup rest_a rest_b
  · simp only [taken, if_true] at unparked_a unparked_b rest_a rest_b ⊢
    exact (counted.applyTaken x y _ _ unparked_a unparked_b).finishMember (State.applyTaken_nodup nodup _ _ _) rest_a rest_b

/-- R60, R128: where no clash is found, what is settled before the outcome leaves the cell. -/
theorem State.settledFrame_frame {s : State} {c : FrameCells} (h : s.clashes c = false) :
    s.settledFrame c = { s with
      outbound := (s.settledFrame c).outbound, slots := (s.settledFrame c).slots
      line := (s.settledFrame c).line, judgement := none } := by
  have found : s.clashFound c = s := by simp [State.clashFound, h]
  unfold State.settledFrame
  rw [found]
  obtain ⟨-, x⟩ | ⟨-, x⟩ := s.loseUnlessOwn_cases c <;> rw [x]
  · rfl
  · rw [State.endAttempt_frame]; rfl

/-- R47, R60: a SYNCED station that is SYNCED after a frame end found no clash, and its cell went through the end of the frame
at a member. -/
theorem State.frameEnd_synced {s : State} {obs : FrameObs} (synced : s.station = .synced) (frame : s.line.tracking = .frame)
    (h : (s.frameEnd obs).station = .synced) :
    ∃ u own, s.Agrees u ∧ s.frameEnd obs = u.memberFrameEnd own obs := by
  rw [State.frameEnd_eq frame] at h ⊢
  obtain ⟨no_clash, -⟩ | ⟨clash, found⟩ := s.clashFound_cases obs.cells
  · have agrees : s.Agrees (s.settledFrame obs.cells) := by
      rw [State.settledFrame_frame no_clash]; exact .of_eq rfl rfl rfl rfl rfl
    have tracks : (s.settledFrame obs.cells).station.tracksCensus = true := by rw [← agrees.station, synced]; rfl
    exact ⟨_, _, agrees, State.handOn_member _ _ tracks⟩
  · have halted : (s.settledFrame obs.cells).station = .halted := by
      unfold State.settledFrame
      rw [found]
      obtain ⟨-, x⟩ | ⟨-, x⟩ := ((s.endAttempt false).halt .clash).loseUnlessOwn_cases obs.cells <;> rw [x]
      · rfl
      · rw [State.endAttempt_frame]; rfl
    rw [State.handOn_other _ _ (by rw [halted]; rfl) (by simp [halted]), halted] at h
    contradiction

/-- Settles O60: every operation of a frame end that both stations go through keeps `State.Agrees`. -/
theorem stationsStayAgreed : Obligations.StationsStayAgreed := by
  unfold Obligations.StationsStayAgreed
  intro obs a b a' b' inv_a _ synced_a synced_b table census members synced rosterSlots zoneCount evict frame_a frame_b run_a
    run_b stays_a stays_b
  obtain rfl := Host.Outcome.next.inj run_a
  obtain rfl := Host.Outcome.next.inj run_b
  have agrees : a.Agrees b :=
    { station := synced_a.trans synced_b.symm, table, census, members, synced
      rosterSlots := congrArg BitVec.toNat rosterSlots, zoneCount := congrArg BitVec.toNat zoneCount
      evictAt := congrArg BitVec.toNat evict }
  obtain ⟨u, x, agrees_u, end_a⟩ := State.frameEnd_synced synced_a frame_a stays_a
  obtain ⟨v, y, agrees_v, end_b⟩ := State.frameEnd_synced synced_b frame_b stays_b
  obtain ⟨-, -, -, -, -, ⟨listed, -⟩, -⟩ := inv_a
  have nodup : u.roster.roster.Nodup := agrees_u.roster ▸ StationSet.Listed.nodup listed
  rw [end_a] at stays_a ⊢
  rw [end_b] at stays_b ⊢
  have after := ((agrees_u.symm.trans agrees).trans agrees_v).memberFrameEnd nodup stays_a stays_b
  exact ⟨after.table, after.census, after.members, after.synced⟩

end Sys2Proof.Machine
end

section
/-! SUPPORT. The end of a TAKEN frame at a member that every member answered (R45, R47, R51): no miss counts, so no eviction and
no self-restart; what is left is the frame's content, the own entry and the lease unit's work. -/

namespace Sys2Proof.Machine

set_option Elab.async false

/-! ### Whose frame it is (R47, R60, R128) -/

/-- R31: the key octet that a class and a sender were read from. -/
theorem keyOctet_read (c : FrameCells) : keyOctet c.frameClass c.sender = c.key := by
  have small := c.key.isLt
  refine BitVec.eq_of_toNat_eq ?_
  simp only [keyOctet, octet, FrameCells.frameClass, FrameCells.sender, field, BitVec.toNat_ofNat]
  omega

/-- R128: a key read as it was sent loses no arbitration. -/
theorem losesKey_self (b : Byte) : losesKey b b = false := by
  simp [losesKey]

theorem State.HearsOwn.ownAttempt {s : State} {obs : FrameObs} {k : EntryKind} (h : s.HearsOwn obs k) :
    s.ownAttempt obs.cells = true := by
  obtain ⟨sent, sender, cls⟩ := h
  obtain ⟨e, onLine, rfl⟩ := Option.map_eq_some_iff.mp sent
  refine (State.ownAttempt_eq_true _ _).mpr ⟨e, onLine, ?_⟩
  rw [← cls, ← sender, keyOctet_read]
  exact losesKey_self _

theorem State.HearsPeer.ownAttempt {s : State} {obs : FrameObs} (h : s.HearsPeer obs) : s.ownAttempt obs.cells = false := by
  obtain ⟨-, idle, -⟩ := h
  simp [State.ownAttempt, idle]

/-- What a member hears is a peer's frame or its own. -/
abbrev State.HearsMember (s : State) (obs : FrameObs) : Prop :=
  s.HearsPeer obs ∨ ∃ k, s.HearsOwn obs k

/-- R60, R128: nothing precedes the outcome of such a frame. -/
theorem State.HearsMember.settledFrame {s : State} {obs : FrameObs} (h : s.HearsMember obs) :
    (s.clashFound obs.cells).loseUnlessOwn obs.cells = s := by
  obtain peer | ⟨k, own⟩ := h
  · have attempt := State.HearsPeer.ownAttempt peer
    obtain ⟨other, idle, kept⟩ := peer
    have found : s.clashFound obs.cells = s := by simp [State.clashFound, State.clashes, attempt, other, kept]
    rw [found, State.loseUnlessOwn, attempt, if_neg Bool.false_ne_true]
    simp only [State.endAttempt, idle]
  · have attempt := State.HearsOwn.ownAttempt own
    have found : s.clashFound obs.cells = s := by simp [State.clashFound, State.clashes, attempt]
    rw [found, State.loseUnlessOwn, attempt, if_pos rfl]

/-! ### No member missed -/

/-- R51: the roster with every miss count cleared. -/
def RosterUnit.answered (r : RosterUnit) : RosterUnit :=
  { r with members := r.members.map fun m => { m with misses := 0 } }

theorem RosterUnit.countMisses_answered {r : RosterUnit} {rollCall : StationSet} (h : ∀ k ∈ r.roster, k ∈ rollCall) :
    r.countMisses rollCall = r.answered := by
  unfold RosterUnit.countMisses RosterUnit.answered
  congr 1
  refine List.map_congr_left fun m hm => ?_
  rw [if_pos (List.contains_iff_mem.mpr (h _ (List.mem_map_of_mem hm)))]

@[simp] theorem RosterUnit.answered_roster (r : RosterUnit) : r.answered.roster = r.roster := by
  simp [RosterUnit.answered, RosterUnit.roster, Function.comp_def]

/-- R51: no member of this station's roster has a miss. -/
abbrev State.NoMisses (s : State) : Prop :=
  ∀ m ∈ s.roster.members, m.misses = 0

theorem State.NoMisses.toEvict {s : State} (h : s.NoMisses) (limit : 0 < s.evictAt) : s.toEvict = [] := by
  unfold State.toEvict
  rw [List.map_eq_nil_iff, List.filter_eq_nil_iff]
  intro m hm
  have := h m hm
  simp only [Bool.and_eq_true, decide_eq_true_eq, not_and]
  omega

theorem State.NoMisses.enrol {s : State} (h : s.NoMisses) (j : Nat) : ∀ m ∈ (s.roster.enrol j).members, m.misses = 0 := by
  intro m hm
  simp only [RosterUnit.enrol, List.mem_map] at hm
  obtain ⟨k, -, rfl⟩ := hm
  dsimp only
  split
  · rfl
  · exact RosterUnit.missesOf_zero h k

theorem State.NoMisses.applyContent {s : State} (h : s.NoMisses) (sender : Nat) (f : Frame) (standing : StationSet) :
    (s.applyContent sender f standing).NoMisses := by
  rcases s.applyContent_cases sender f standing with ⟨_, -, x⟩ | ⟨_, -, x⟩ | ⟨_, _, _, -, -, x⟩ | ⟨_, -, -, x⟩ |
    ⟨_, -, -, x⟩ | ⟨-, -, x⟩ | ⟨-, -, x⟩ | x <;> rw [x]
  · rw [State.joinTaken_frame]; exact h.enrol _
  · rw [State.censusTaken_frame]; exact h
  · rw [State.claimTaken_frame]; exact h
  · rw [State.dropTaken_frame]; exact h
  · rw [State.expireTaken_frame]; exact h
  · exact fun m hm => absurd hm List.not_mem_nil
  · rw [State.leaveTaken_frame]; exact fun m hm => h m (List.mem_filter.mp hm).1
  · exact h

/-! ### The frame end -/

/-- R45, R51: a member at whose frame end every member answered: the frame closed, every miss count cleared. -/
def State.answered (s : State) : State :=
  { s with
    roster := s.roster.answered
    line := { s.line with tracking := .ending, rx := none }
    judgement := none }

/-- R8, R111: such a member after its own entry and the sequence number. -/
def State.entered (s : State) (obs : FrameObs) : State :=
  s.answered.entryTaken (s.ownAttempt obs.cells)

/-- R13: and after the content of the frame. -/
def State.tookContent (s : State) (obs : FrameObs) (f : Frame) : State :=
  (s.entered obs).applyContent obs.cells.sender f obs.standing

/-- R87, R111, R134: and after what its own entry leaves behind. -/
def State.tookEntry (s : State) (obs : FrameObs) (f : Frame) : State :=
  if s.ownAttempt obs.cells then (s.tookContent obs f).settleTaken s.outbound.onLine else s.tookContent obs f

/-- R69: the station that a frame expires. -/
def Frame.expires (f : Frame) : Option Nat :=
  match f with
  | .expire k => some k
  | _ => none

/-- R62: the frames that change the membership. -/
def Frame.changesMembership (f : Frame) : Bool :=
  match f with
  | .join _ => true
  | .leave => true
  | _ => false

/-- R71: and after the lease unit's work. -/
def State.tookFrame (s : State) (obs : FrameObs) (f : Frame) : State :=
  (s.tookEntry obs f).leaseWork (some obs.cells.sender) f.expires (s.ownAttempt obs.cells) s.census.freeze

/-- R62: the station number that such a frame raises ROSTER with. -/
def Frame.rosterDetail (f : Frame) (sender : Nat) : Option Nat :=
  if f.changesMembership then some sender else none

theorem State.answered_noMisses (s : State) : s.answered.NoMisses := by
  intro m hm
  simp only [State.answered, RosterUnit.answered, List.mem_map] at hm
  obtain ⟨_, -, rfl⟩ := hm
  rfl

theorem State.tookEntry_frame (s : State) (obs : FrameObs) (f : Frame) :
    s.tookEntry obs f = { s.tookContent obs f with
      outbound := (s.tookEntry obs f).outbound, slots := (s.tookEntry obs f).slots } := by
  unfold State.tookEntry
  split
  · rw [State.settleTaken_frame]
  · rfl

theorem State.tookEntry_noMisses (s : State) (obs : FrameObs) (f : Frame) : (s.tookEntry obs f).NoMisses := by
  have entry : (s.entered obs).NoMisses := by
    unfold State.entered
    rw [State.entryTaken_frame]; exact s.answered_noMisses
  rw [State.tookEntry_frame]
  exact entry.applyContent _ _ _

theorem State.applyTaken_answered {s : State} {obs : FrameObs} {f : Frame} (read : s.content obs.cells = some f) :
    s.answered.applyTaken (s.ownAttempt obs.cells) obs.cells obs.standing = s.tookEntry obs f := by
  have read : s.answered.content obs.cells = some f := read
  simp only [State.applyTaken, read]
  rfl

theorem State.membershipChange_eq {s : State} {c : FrameCells} {f : Frame} (read : s.content c = some f) :
    s.membershipChange c = f.rosterDetail c.sender := by
  unfold State.membershipChange
  rw [read]
  cases f <;> rfl

/-- R26, R100: a peer's frame, or an own one that is no LEAVE, leaves the configuration, and the station in its state or
SYNCED with a table installed. -/
theorem State.tookEntry_station {s : State} {obs : FrameObs} {f : Frame} (stays : f ≠ .leave ∨ obs.cells.sender ≠ s.own) :
    (s.tookEntry obs f).config = s.config ∧
      ((s.tookEntry obs f).station = s.station ∨ (s.station = .syncing ∧ (s.tookEntry obs f).station = .synced)) := by
  rw [State.tookEntry_frame]
  dsimp only [State.tookContent, State.entered]
  set u := s.answered.entryTaken (s.ownAttempt obs.cells) with hu
  have config : u.config = s.config := by rw [hu, State.entryTaken_frame]; rfl
  have station : u.station = s.station := by rw [hu, State.entryTaken_frame]; rfl
  have number : u.own = s.own := congrArg (·.station.toNat) config
  rw [← config, ← station]
  rcases u.applyContent_cases obs.cells.sender f obs.standing with ⟨_, -, x⟩ | ⟨p, -, x⟩ | ⟨_, _, _, -, -, x⟩ |
    ⟨_, -, -, x⟩ | ⟨_, -, -, x⟩ | ⟨leave, own, -⟩ | ⟨-, -, x⟩ | x
  · rw [x, State.joinTaken_frame]; exact ⟨rfl, .inl rfl⟩
  · rw [x, State.censusTaken_frame]
    by_cases h : u.installs p
    · exact ⟨rfl, .inr ⟨h.1, if_pos h⟩⟩
    · exact ⟨rfl, .inl (if_neg h)⟩
  · rw [x, State.claimTaken_frame]; exact ⟨rfl, .inl rfl⟩
  · rw [x, State.dropTaken_frame]; exact ⟨rfl, .inl rfl⟩
  · rw [x, State.expireTaken_frame]; exact ⟨rfl, .inl rfl⟩
  · exact absurd (own.trans number) (stays.resolve_left fun c => c leave)
  · rw [x, State.leaveTaken_frame]; exact ⟨rfl, .inl rfl⟩
  · rw [x]; exact ⟨rfl, .inl rfl⟩

theorem State.tookEntry_fails0 (s : State) (obs : FrameObs) (f : Frame) :
    s.outbound.Fails0 (s.tookEntry obs f).outbound := by
  have entry : s.outbound.Fails0 (s.entered obs).outbound := by
    unfold State.entered State.entryTaken
    rw [State.stepSequence_frame]
    split
    · exact .takeEntry s.answered
    · exact .refl _
  have content := entry.trans (.applyContent _ obs.cells.sender f obs.standing)
  unfold State.tookEntry
  split
  · exact content.trans (.settleTaken _ _)
  · exact content

/-- R53, R114: the rest of such a frame end: no eviction, no self-restart, no exhaustion. -/
theorem State.finishMember_tookEntry {s : State} {obs : FrameObs} {f : Frame} (inv : s.Inv) (left : s.station ≠ .config)
    (stays : f ≠ .leave ∨ obs.cells.sender ≠ s.own) (taken : obs.taken = true) (read : s.content obs.cells = some f) :
    (s.tookEntry obs f).finishMember s.closeFrame (s.ownAttempt obs.cells) obs =
      (s.tookFrame obs f).raiseRosterFor (f.rosterDetail obs.cells.sender) := by
  have core := inv.cellInv
  obtain ⟨-, -, -, evicts, retries⟩ := core.config.bounds left
  obtain ⟨config, -⟩ := s.tookEntry_station (obs := obs) stays
  have misses := s.tookEntry_noMisses obs f
  have limit : (s.tookEntry obs f).evictAt = s.evictAt := by
    simp only [State.evictAt, config]
  have nobody : (s.tookEntry obs f).toEvict = [] := misses.toEvict (by omega)
  have read' : s.closeFrame.content obs.cells = some f := read
  have leased : (s.tookEntry obs f).leasedAtEnd s.closeFrame (s.ownAttempt obs.cells) obs = s.tookFrame obs f := by
    unfold State.leasedAtEnd
    simp only [nobody, taken, read', List.isEmpty_nil, Bool.not_true, Bool.and_false, Bool.and_true, Bool.false_eq_true,
      if_true, if_false]
    unfold State.tookFrame
    cases f <;> rfl
  have frame : s.tookFrame obs f = { s.tookEntry obs f with
      lease := (s.tookFrame obs f).lease, outbound := (s.tookFrame obs f).outbound } :=
    State.leaseWork_frame _ _ _ _ _
  have short : ¬(s.tookFrame obs f).evictAt ≤ (s.tookFrame obs f).roster.missesOf (s.tookFrame obs f).own := by
    have same : (s.tookFrame obs f).evictAt = s.evictAt := by rw [frame]; exact limit
    have none_missed : (s.tookFrame obs f).NoMisses := by rw [frame]; exact misses
    rw [same, RosterUnit.missesOf_zero none_missed]
    omega
  have detail : (s.tookEntry obs f).rosterDetail s.closeFrame obs = f.rosterDetail obs.cells.sender := by
    simp only [State.rosterDetail, nobody, taken, if_true]
    exact State.membershipChange_eq read'
  rw [State.finishMember_eq, leased, if_neg short, detail, State.actOnExhaustion_of_lt]
  rw [State.raiseRosterFor_frame]
  intro e he
  change e.retries < (s.tookFrame obs f).config.retry.toNat
  have same : (s.tookFrame obs f).config = s.config := by rw [frame]; exact config
  rw [same]
  rcases (s.tookEntry_fails0 obs f).trans (.leaseWork _ _ _ _ _) e he with old | zero
  · exact core.retries e old
  · rw [zero]
    exact lt_of_lt_of_le (by norm_num) retries

/-- R47, R51: the end of a TAKEN frame that every member answered, at a member that stays one. -/
theorem State.frameEnd_taken {s : State} {obs : FrameObs} {f : Frame} (inv : s.Inv) (tracks : s.station.tracksCensus = true)
    (heard : s.HearsTaken obs f) (who : s.HearsMember obs) (stays : f ≠ .leave ∨ obs.cells.sender ≠ s.own) :
    s.frameEnd obs = ((s.tookFrame obs f).raiseRosterFor (f.rosterDetail obs.cells.sender)).raiseForeignFor
      (s.foreignJoin obs.cells) obs.cells.sender := by
  obtain ⟨frame, taken, good, parsed, everyone⟩ := heard
  have left : s.station ≠ .config := fun c => by simp [c, StationState.tracksCensus] at tracks
  have read : s.content obs.cells = some f := State.content_eq_some.mpr ⟨good, parsed⟩
  have closed : s.settledFrame obs.cells = s.closeFrame := congrArg State.closeFrame who.settledFrame
  have counted : s.closeFrame.countMisses obs.rollCall = s.answered := by
    simp only [State.countMisses, State.closeFrame, RosterUnit.countMisses_answered everyone]
    rfl
  have unparked : (s.tookEntry obs f).station ≠ .parked := by
    obtain same | ⟨-, synced⟩ := (s.tookEntry_station (obs := obs) stays).2
    · rw [same]; exact fun c => by simp [c, StationState.tracksCensus] at tracks
    · rw [synced]; simp
  rw [State.frameEnd_eq frame, who.settledFrame, closed, State.handOn_member (s := s.closeFrame) _ _ tracks, State.memberFrameEnd, counted, taken,
    if_pos rfl, State.applyTaken_answered read, if_neg unparked, State.finishMember_tookEntry inv left stays taken read]
  rfl

end Sys2Proof.Machine
end

section
/-! SUPPORT. What stands after the end of a TAKEN frame: each part of the station, and its outbound set. -/

namespace Sys2Proof.Machine

set_option Elab.async false

/-! ### The lease unit's work on the outbound set and the window (R69 to R73) -/

/-- R69, R73: the entries that the lease unit's work takes from the outbound set. -/
def State.mootAtEnd (s : State) (renewed expired : Option Nat) (own : Bool) (k : EntryKind) : Bool :=
  s.expireMoot renewed expired k || (k == .pulse && (own || decide (s.table.countOf s.own = 0)))

/-- R70: the EXPIRE entries that waited for the end of the freeze are entered. -/
abbrev State.Defers (s : State) (frozen : Bool) : Prop :=
  frozen = true ∧ s.census.freeze = false ∧ s.station = .synced

theorem State.leaseWork_of_not_defers {s : State} {frozen : Bool} (h : ¬s.Defers frozen) (renewed expired : Option Nat)
    (own : Bool) :
    s.leaseWork renewed expired own frozen =
      (({ s with lease := { s.lease with leases := s.leasesAfter renewed } }).ownTimersAfter own).discard
        (s.mootAtEnd renewed expired own) :=
  if_neg h

theorem State.leaseWork_of_defers {s : State} {frozen : Bool} (h : s.Defers frozen) (renewed expired : Option Nat)
    (own : Bool) :
    s.leaseWork renewed expired own frozen =
      ((({ s with lease := { s.lease with leases := s.leasesAfter renewed } }).ownTimersAfter own).discard
        (s.mootAtEnd renewed expired own)).enterDeferred :=
  if_pos h

theorem State.leaseWork_entries {s : State} {frozen : Bool} (h : ¬s.Defers frozen) (renewed expired : Option Nat)
    (own : Bool) :
    (s.leaseWork renewed expired own frozen).outbound.entries =
      s.outbound.entries.filter fun e => !s.mootAtEnd renewed expired own e.kind := by
  rw [State.leaseWork_of_not_defers h, State.discard_outbound, Outbound.discard_entries, State.ownTimersAfter_outbound]

/-- R70: entering EXPIRE entries leaves the entries of every other kind. -/
theorem State.requests_filter {p : EntryKind → Bool} (expires : ∀ k, p (.expire k) = false) (l : List Lease) (s : State) :
    ((l.foldl (fun u x => u.request (.expire x.peer)) s).outbound.entries.filter fun e => p e.kind) =
      s.outbound.entries.filter fun e => p e.kind := by
  induction l generalizing s with
  | nil => rfl
  | cons x l ih =>
    rw [List.foldl_cons, ih, State.request_outbound]
    obtain ⟨-, h⟩ | ⟨-, h⟩ := s.outbound.request_cases (.expire x.peer) <;> rw [h]
    simp [Entry.fresh, expires]

theorem State.requests_spent (l : List Lease) (s : State) :
    (l.foldl (fun u x => u.request (.expire x.peer)) s).outbound.spent = s.outbound.spent := by
  induction l generalizing s with
  | nil => rfl
  | cons x l ih =>
    rw [List.foldl_cons, ih, State.request_outbound]
    obtain ⟨-, h⟩ | ⟨-, h⟩ := s.outbound.request_cases (.expire x.peer) <;> rw [h]

/-- R69, R70, R73: the lease unit's work leaves the entries that are neither EXPIRE nor PULSE. -/
theorem State.leaseWork_filter {p : EntryKind → Bool} (expires : ∀ k, p (.expire k) = false) (pulse : p .pulse = false)
    (renewed expired : Option Nat) (own frozen : Bool) (s : State) :
    ((s.leaseWork renewed expired own frozen).outbound.entries.filter fun e => p e.kind) =
      s.outbound.entries.filter fun e => p e.kind := by
  have kept : ((s.outbound.entries.filter fun e => !s.mootAtEnd renewed expired own e.kind).filter fun e => p e.kind) =
      s.outbound.entries.filter fun e => p e.kind := by
    rw [List.filter_filter]
    refine List.filter_congr fun e _ => ?_
    cases x : e.kind <;> simp [State.mootAtEnd, State.expireMoot, expires, pulse]
  by_cases h : s.Defers frozen
  · rw [State.leaseWork_of_defers h, State.enterDeferred, State.requests_filter expires, State.discard_outbound,
      Outbound.discard_entries, State.ownTimersAfter_outbound, kept]
  · rw [State.leaseWork_entries h, kept]

theorem State.mem_leaseWork {e : Entry} (expires : ∀ k, e.kind ≠ .expire k) (pulse : e.kind ≠ .pulse)
    (renewed expired : Option Nat) (own frozen : Bool) (s : State) :
    e ∈ (s.leaseWork renewed expired own frozen).outbound.entries ↔ e ∈ s.outbound.entries := by
  have same := State.leaseWork_filter (p := fun k => k == e.kind) (fun k => by simpa using (expires k).symm)
    (by simpa using pulse.symm) renewed expired own frozen s
  have := congrArg (e ∈ ·) same
  simpa using this

theorem State.leaseWork_spent (renewed expired : Option Nat) (own frozen : Bool) (s : State) :
    (s.leaseWork renewed expired own frozen).outbound.spent = s.outbound.spent := by
  by_cases h : s.Defers frozen
  · rw [State.leaseWork_of_defers h, State.enterDeferred, State.requests_spent, State.discard_outbound,
      Outbound.discard_spent, State.ownTimersAfter_outbound]
  · rw [State.leaseWork_of_not_defers h, State.discard_outbound, Outbound.discard_spent, State.ownTimersAfter_outbound]

theorem State.leaseWork_window (renewed expired : Option Nat) (own frozen : Bool) (s : State) :
    (s.leaseWork renewed expired own frozen).lease.window = s.lease.window := by
  have timed : ∀ u : State, (u.ownTimersAfter own).lease.window = u.lease.window := fun u => by
    obtain ⟨_, h⟩ | ⟨_, _, h⟩ | ⟨_, _, _, h⟩ := State.ownTimersAfter_cases own u <;> rw [h]
  by_cases h : s.Defers frozen
  · rw [State.leaseWork_of_defers h, State.enterDeferred, State.requests_frame]
    exact timed _
  · rw [State.leaseWork_of_not_defers h]
    exact timed _

/-! ### The own entry (R111) -/

theorem State.entryTaken_peer (s : State) : (s.entryTaken false).outbound = s.outbound := by
  unfold State.entryTaken
  rw [State.stepSequence_frame]
  rfl

theorem State.entryTaken_own {s : State} {e : Entry} (h : s.outbound.onLine = some e) :
    (s.entryTaken true).outbound =
      { entries := s.outbound.entries.filter fun x => !x.onLine
        spent := s.outbound.spent || decide (4 ≤ e.kind.frameClass)
        sending := [] } := by
  unfold State.entryTaken
  rw [State.stepSequence_frame]
  simp [State.takeEntry, h]

theorem EntryKind.answers_self (k : EntryKind) : k.answers k = true := by
  cases k <;> simp [EntryKind.answers]

theorem EntryKind.answers_comm (a b : EntryKind) : a.answers b = b.answers a := by
  cases a <;> cases b <;> simp [EntryKind.answers, Bool.beq_comm]

/-- R104: where no two entries answer one request, only one answers as the one on the line does. -/
theorem State.OutboundFits.not_answers {s : State} (h : s.OutboundFits) {e x : Entry} (sent : s.outbound.onLine = some e)
    (hx : x ∈ s.outbound.entries) (rest : x.onLine = false) : x.kind.answers e.kind = false := by
  obtain ⟨apart, -⟩ := h
  have he : e ∈ s.outbound.entries := List.mem_of_find?_eq_some sent
  have on : e.onLine = true := by simpa using List.find?_some sent
  have ne : x ≠ e := fun c => by rw [c, on] at rest; contradiction
  have symm : Std.Symm fun a b : Entry => a.kind.answers b.kind = false :=
    ⟨fun a b hab => (EntryKind.answers_comm _ _).trans hab⟩
  exact List.Pairwise.forall apart hx he ne

/-- R104, R111: once the entry on the line is gone, none answers as it did. -/
theorem State.OutboundFits.entryTaken_not_answers {s : State} (h : s.OutboundFits) {e : Entry}
    (sent : s.outbound.onLine = some e) : ∀ x ∈ (s.entryTaken true).outbound.entries, x.kind.answers e.kind = false := by
  intro x hx
  rw [State.entryTaken_own sent] at hx
  obtain ⟨held, rest⟩ := List.mem_filter.mp hx
  exact h.not_answers sent held (by simpa using rest)

/-! ### Grants at the own slots (R139) -/

theorem Slot.become_granted {b : Slot} (h : b.state = .waiting) :
    b.become .granted none = { b with state := .granted, reason := none, changed := true, dropWanted := false } := by
  simp [Slot.become, h]

theorem State.slotGranted_getElem? (s : State) (r : RecordRef) (i : Nat) :
    (s.slotGranted r).slots[i]? = s.slots[i]?.map fun b =>
      if b.state = .waiting ∧ r.owner = s.own ∧ r.tag = i then
        { b with state := .granted, reason := none, changed := true, dropWanted := false }
      else b := by
  unfold State.slotGranted
  cases at_i : s.slots[i]? with
  | none =>
    split
    · simp [State.updateSlot, updateAt, List.getElem?_modify, at_i]
    · exact at_i
  | some b =>
    by_cases tag : r.tag = i
    · have slot : s.slotAt r.tag = b := State.slotAt_of_getElem? (tag ▸ at_i)
      rw [slot]
      by_cases grants : r.owner = s.own ∧ b.state = .waiting
      · simp [State.updateSlot, updateAt, at_i, tag, grants.1, grants.2, Slot.become_granted grants.2]
      · have not_both : ¬(b.state = .waiting ∧ r.owner = s.own ∧ r.tag = i) := fun c => grants ⟨c.2.1, c.1⟩
        rw [if_neg grants, at_i]
        simp [not_both]
    · split
      · simp [State.updateSlot, updateAt, at_i, tag]
      · simp [at_i, tag]

/-- R139: the grants of a pass, one after another, leave the slots that the obligations name. -/
theorem State.slotsGranted_slots (l : List RecordRef) (s : State) :
    (l.foldl State.slotGranted s).slots = s.slotsAfterGrants l := by
  induction l generalizing s with
  | nil => simp [State.slotsAfterGrants]
  | cons r l ih =>
    rw [List.foldl_cons, ih]
    refine List.ext_getElem? fun i => ?_
    have number : (s.slotGranted r).own = s.own := by rw [State.slotGranted_frame]; rfl
    simp only [State.slotsAfterGrants, List.getElem?_map, List.getElem?_zipIdx, State.slotGranted_getElem?, number,
      Option.map_map, Nat.zero_add]
    cases s.slots[i]? with
    | none => rfl
    | some b =>
      by_cases waits : b.state = .waiting
      · by_cases this_one : r.owner = s.own ∧ r.tag = i
        · simp [waits, this_one]
        · simp [waits, this_one]
      · simp [waits]

theorem State.removeRecords_slots (gone : Nat → Nat → Bool) (s : State) :
    (s.removeRecords gone).slots = s.slotsAfterGrants (s.table.grantedWithout gone) := by
  unfold State.removeRecords
  rw [State.slotsGranted_slots]
  rfl

/-! ### The own entry and the content -/

theorem State.entered_frame (s : State) (obs : FrameObs) :
    s.entered obs = { s.answered with
      table := if s.station = .synced then s.table.stepSequence else s.table, outbound := (s.entered obs).outbound } :=
  s.answered.entryTaken_frame _

theorem State.entered_peer {s : State} {obs : FrameObs} (h : s.HearsPeer obs) : (s.entered obs).outbound = s.outbound := by
  unfold State.entered
  rw [State.HearsPeer.ownAttempt h, State.entryTaken_peer]
  rfl

/-- R103, R109: the entry of an own frame. -/
theorem State.HearsOwn.entry {s : State} {obs : FrameObs} {k : EntryKind} (h : s.HearsOwn obs k) :
    ∃ e, s.outbound.onLine = some e ∧ e.kind = k :=
  Option.map_eq_some_iff.mp h.1

/-- R111: the own entry is gone, and a frame of class 4 to 6 has set the spent flag. -/
theorem State.entered_own {s : State} {obs : FrameObs} {k : EntryKind} (h : s.HearsOwn obs k) :
    (s.entered obs).outbound =
      { entries := s.outbound.entries.filter fun x => !x.onLine
        spent := s.outbound.spent || decide (4 ≤ k.frameClass)
        sending := [] } := by
  obtain ⟨e, sent, rfl⟩ := State.HearsOwn.entry h
  unfold State.entered
  rw [State.HearsOwn.ownAttempt h]
  exact State.entryTaken_own (s := s.answered) sent

/-- R104, R111: no entry left answers as the own one did. -/
theorem State.entered_not_answers {s : State} {obs : FrameObs} {k : EntryKind} (inv : s.Inv) (h : s.HearsOwn obs k) :
    ∀ x ∈ (s.entered obs).outbound.entries, x.kind.answers k = false := by
  obtain ⟨-, -, -, -, outbound, -⟩ := inv
  obtain ⟨e, sent, rfl⟩ := State.HearsOwn.entry h
  unfold State.entered
  rw [State.HearsOwn.ownAttempt h]
  exact State.OutboundFits.entryTaken_not_answers (s := s.answered) outbound sent

theorem State.tookEntry_peer {s : State} {obs : FrameObs} (h : s.HearsPeer obs) (f : Frame) :
    s.tookEntry obs f = s.tookContent obs f := by
  unfold State.tookEntry
  rw [State.HearsPeer.ownAttempt h, if_neg Bool.false_ne_true]

theorem State.tookEntry_own {s : State} {obs : FrameObs} {k : EntryKind} (h : s.HearsOwn obs k) (f : Frame) :
    s.tookEntry obs f = (s.tookContent obs f).settleTaken s.outbound.onLine := by
  unfold State.tookEntry
  rw [State.HearsOwn.ownAttempt h, if_pos rfl]

/-- R87, R134: only a CENSUS part and a CLAIM leave something behind. -/
theorem State.tookEntry_plain {s : State} {obs : FrameObs} {k : EntryKind} (who : s.HearsPeer obs ∨ s.HearsOwn obs k)
    (part : k.isCensus = false) (claim : k.claimTag = none) (f : Frame) : s.tookEntry obs f = s.tookContent obs f := by
  obtain peer | own := who
  · exact State.tookEntry_peer peer f
  · rw [State.tookEntry_own own]
    obtain ⟨e, sent, rfl⟩ := State.HearsOwn.entry own
    obtain ⟨_, i, x, is_part, -⟩ | ⟨_, tag, x, is_claim, -⟩ | h := (s.tookContent obs f).settleTaken_cases s.outbound.onLine
    · obtain rfl := Option.some.inj (sent.symm.trans x)
      rw [is_part] at part; contradiction
    · obtain rfl := Option.some.inj (sent.symm.trans x)
      rw [is_claim] at claim; contradiction
    · exact h

/-! ### The station after the frame end -/

/-- R62, R63: the station after the end of a TAKEN frame, its attention raised. -/
def State.endsTaken (s : State) (obs : FrameObs) (f : Frame) : State :=
  ((s.tookFrame obs f).raiseRosterFor (f.rosterDetail obs.cells.sender)).raiseForeignFor (s.foreignJoin obs.cells)
    obs.cells.sender

theorem State.endsTaken_frame (s : State) (obs : FrameObs) (f : Frame) :
    s.endsTaken obs f = { s.tookContent obs f with
      outbound := (s.tookFrame obs f).outbound
      slots := (s.tookEntry obs f).slots
      lease := (s.tookFrame obs f).lease
      attention := (s.endsTaken obs f).attention } := by
  unfold State.endsTaken
  rw [State.raiseForeignFor_frame, State.raiseRosterFor_frame]
  unfold State.tookFrame
  rw [State.leaseWork_frame, State.tookEntry_frame]

/-- R62, R63: only a JOIN and a LEAVE raise attention besides their content. -/
theorem State.endsTaken_attention {s : State} {obs : FrameObs} {f : Frame} (parsed : s.parse obs.cells = some f)
    (plain : f.changesMembership = false) : (s.endsTaken obs f).attention = (s.tookContent obs f).attention := by
  have cls : obs.cells.frameClass ≠ 2 := by
    rw [← State.parse_frameClass parsed]
    cases f <;> simp [Frame.frameClass, Frame.changesMembership] at plain ⊢
  have familiar : s.foreignJoin obs.cells = false := by simp [State.foreignJoin, cls]
  unfold State.endsTaken
  rw [familiar, Frame.rosterDetail, plain, if_neg Bool.false_ne_true]
  change (s.tookFrame obs f).attention = _
  unfold State.tookFrame
  rw [State.leaseWork_frame, State.tookEntry_frame]

theorem State.exec_frameEnd_taken {s : State} {obs : FrameObs} {f : Frame} (inv : s.Inv)
    (tracks : s.station.tracksCensus = true) (heard : s.HearsTaken obs f) (who : s.HearsMember obs)
    (stays : f ≠ .leave ∨ obs.cells.sender ≠ s.own) : exec (.frameEnd obs) s = .next (s.endsTaken obs f) :=
  congrArg Host.Outcome.next (State.frameEnd_taken inv tracks heard who stays)

theorem State.endsTaken_spent (s : State) (obs : FrameObs) (f : Frame) :
    (s.endsTaken obs f).outbound.spent = (s.tookEntry obs f).outbound.spent := by
  rw [State.endsTaken_frame]
  exact State.leaseWork_spent _ _ _ _ _

theorem State.endsTaken_window (s : State) (obs : FrameObs) (f : Frame) :
    (s.endsTaken obs f).lease.window = (s.tookContent obs f).lease.window := by
  rw [State.endsTaken_frame]
  refine (State.leaseWork_window _ _ _ _ _).trans ?_
  rw [State.tookEntry_frame]

theorem State.endsTaken_filter {p : EntryKind → Bool} (expires : ∀ k, p (.expire k) = false) (pulse : p .pulse = false)
    (s : State) (obs : FrameObs) (f : Frame) :
    ((s.endsTaken obs f).outbound.entries.filter fun e => p e.kind) =
      (s.tookEntry obs f).outbound.entries.filter fun e => p e.kind := by
  rw [State.endsTaken_frame]
  exact State.leaseWork_filter expires pulse _ _ _ _ _

theorem State.mem_endsTaken {e : Entry} (expires : ∀ k, e.kind ≠ .expire k) (pulse : e.kind ≠ .pulse) (s : State)
    (obs : FrameObs) (f : Frame) :
    e ∈ (s.endsTaken obs f).outbound.entries ↔ e ∈ (s.tookEntry obs f).outbound.entries := by
  rw [State.endsTaken_frame]
  exact State.mem_leaseWork expires pulse _ _ _ _ _

end Sys2Proof.Machine
end

section
/-! A PULSE, a CLAIM, a DROP and an EXPIRE taken (R13, R16 to R21, R111, R138 to R143). -/

namespace Sys2Proof.Machine

set_option Elab.async false

theorem Outbound.mem_request {o : Outbound} {k : EntryKind} {e : Entry} (h : e ∈ (o.request k).entries) :
    e ∈ o.entries ∨ e.kind = k := by
  obtain ⟨-, x⟩ | ⟨-, x⟩ := o.request_cases k <;> rw [x] at h
  · exact .inl h
  · exact (List.mem_append.mp h).imp_right fun last => congrArg Entry.kind (List.mem_singleton.mp last)

/-- R104: after a request an entry that answers it is held. -/
theorem Outbound.exists_answers_request (o : Outbound) (k : EntryKind) :
    ∃ e ∈ (o.request k).entries, e.kind.answers k = true := by
  obtain ⟨held, x⟩ | ⟨-, x⟩ := o.request_cases k <;> rw [x]
  · exact List.any_eq_true.mp held
  · exact ⟨Entry.fresh k, List.mem_append_right _ (List.mem_singleton.mpr rfl), k.answers_self⟩

theorem Outbound.request_spent (o : Outbound) (k : EntryKind) : (o.request k).spent = o.spent := by
  obtain ⟨-, x⟩ | ⟨-, x⟩ := o.request_cases k <;> rw [x]

/-- R104: a request that is neither JOIN nor CENSUS is answered by its own kind and argument alone. -/
theorem EntryKind.eq_of_answers {a b : EntryKind} (join : b.isJoin = false) (part : b.isCensus = false)
    (h : a.answers b = true) : a = b := by
  have plain : a.answers b = (a == b) := by
    cases b with
    | join _ => contradiction
    | census _ => contradiction
    | _ => cases a <;> rfl
  exact beq_iff_eq.mp (plain ▸ h)

theorem State.tracksCensus_of_member {s : State} (h : s.station = .synced ∨ s.station = .syncing) :
    s.station.tracksCensus = true := by
  rcases h with x | x <;> simp [x, StationState.tracksCensus]

/-- R70: where the census state stays, no EXPIRE entry waited for the end of the freeze. -/
theorem State.not_defers_of_census {s t : State} (h : t.census = s.census) : ¬t.Defers s.census.freeze := by
  rintro ⟨on, off, -⟩
  rw [h, on] at off
  contradiction

/-- R8: the table of a SYNCED station before the content of a TAKEN frame. -/
theorem State.entered_table {s : State} (synced : s.station = .synced) (obs : FrameObs) :
    (s.entered obs).table = s.table.numbered (s.table.sequence + 1) := by
  rw [State.entered_frame]
  exact if_pos synced

theorem State.entered_station (s : State) (obs : FrameObs) : (s.entered obs).station = s.station := by
  rw [State.entered_frame]; rfl

theorem State.entered_own_number (s : State) (obs : FrameObs) : (s.entered obs).own = s.own := by
  rw [State.entered_frame]; rfl

theorem State.entered_slots (s : State) (obs : FrameObs) : (s.entered obs).slots = s.slots := by
  rw [State.entered_frame]; rfl

/-- R105: the kind of an own frame is one that this station state sends. -/
theorem State.HearsOwn.sentIn {s : State} {obs : FrameObs} {k : EntryKind} (inv : s.Inv) (h : s.HearsOwn obs k) :
    k.sentIn s.station = true := by
  obtain ⟨-, -, -, -, -, -, -, -, places, -⟩ := inv
  obtain ⟨e, sent, rfl⟩ := State.HearsOwn.entry h
  exact (places e (List.mem_of_find?_eq_some sent)).2 (by simpa using List.find?_some sent)

/-! ### A PULSE -/

theorem Table.countOf_eq_zero (t : Table) (k : Nat) :
    decide (t.countOf k = 0) = !t.requests.any fun r => r.owner == k := by
  rw [Bool.eq_iff_iff]
  simp [Table.countOf, List.filter_eq_nil_iff]

/-- Settles O43: the content of a PULSE is none, so that what stands after it is the own entry, the sequence number, the
cleared miss counts and the lease unit's work. -/
theorem takenPulseOnlyRenews : Obligations.TakenPulseOnlyRenews := by
  unfold Obligations.TakenPulseOnlyRenews
  intro obs s inv station heard who owns
  have tracks := State.tracksCensus_of_member station
  have entry : s.tookEntry obs .pulse = s.entered obs := State.tookEntry_plain who rfl rfl .pulse
  have whole := s.endsTaken_frame obs .pulse
  rw [entry, show s.tookContent obs .pulse = s.entered obs from rfl, State.entered_frame] at whole
  have count : ∀ k, (s.entered obs).table.countOf k = s.table.countOf k := fun k => by
    rw [State.entered_frame]
    dsimp only
    split <;> rfl
  have number := s.entered_own_number obs
  have entries : (s.endsTaken obs .pulse).outbound.entries = (s.entered obs).outbound.entries.filter fun e =>
      !(s.entered obs).mootAtEnd (some obs.cells.sender) none (s.ownAttempt obs.cells) e.kind := by
    have still : ¬(s.entered obs).Defers s.census.freeze :=
      State.not_defers_of_census (by rw [State.entered_frame]; rfl)
    rw [s.endsTaken_frame, State.tookFrame, entry]
    exact State.leaseWork_entries still _ _ _
  have spent : (s.endsTaken obs .pulse).outbound.spent = (s.entered obs).outbound.spent := by
    rw [State.endsTaken_spent, entry]
  refine ⟨_, State.exec_frameEnd_taken inv tracks heard (who.imp_right fun own => ⟨_, own⟩) (.inl (by simp)),
    by rw [whole]; rfl, by rw [whole]; rfl, by rw [whole]; rfl, by rw [whole]; rfl, by rw [whole]; rfl, ?_, ?_, ?_, ?_⟩
  · rw [State.endsTaken_attention heard.2.2.2.1 rfl]
    change (s.entered obs).attention = _
    rw [State.entered_frame]
    rfl
  · rw [State.endsTaken_window]
    change (s.entered obs).lease.window = _
    rw [State.entered_frame]
    rfl
  · intro peer
    refine ⟨by rw [spent, State.entered_peer peer], ?_⟩
    rw [entries, State.entered_peer peer, State.HearsPeer.ownAttempt peer]
    refine List.filter_congr fun e _ => ?_
    cases e.kind with
    | expire k =>
      simp only [State.mootAtEnd, State.expireMoot, count]
      rw [Table.countOf_eq_zero]
      simp [owns, bne, Bool.beq_comm]
    | pulse =>
      simp only [State.mootAtEnd, State.expireMoot, count, number, Table.countOf_eq_zero]
      simp [owns]
    | _ => rfl
  · intro own
    refine ⟨by simpa [EntryKind.sentIn] using State.HearsOwn.sentIn inv own, by
      rw [spent, State.entered_own own]; simp [EntryKind.frameClass], fun e he pulse => ?_⟩
    rw [entries] at he
    have left := State.entered_not_answers inv own e (List.mem_filter.mp he).1
    rw [pulse] at left
    contradiction

/-! ### A slot that changes (R134, R138) -/

/-- R135: one slot changed is one slot set. -/
theorem State.updateSlot_slots_eq_set (k : Nat) (f : Slot → Slot) (s : State) :
    (s.updateSlot k f).slots = s.slots.set k (f (s.slotAt k)) := by
  refine List.ext_getElem? fun i => ?_
  rw [State.updateSlot_slots, List.getElem?_modify, List.getElem?_set]
  by_cases same : k = i
  · cases at_i : s.slots[i]? with
    | none => simp [same, List.getElem?_eq_none_iff.mp at_i]
    | some b =>
      have inside : i < s.slots.length := (List.getElem?_eq_some_iff.mp at_i).1
      simp [same, inside, State.slotAt_of_getElem? at_i]
  · simp [same]

/-- R134, R135: a QUEUED slot that takes another state but FREE has its changed flag set. -/
theorem Slot.become_of_queued {b : Slot} (queued : b.state = .queued) {x : SlotState} (other : x ≠ .queued) (busy : x ≠ .free)
    (r : Option Reason) :
    b.become x r = { b with state := x, reason := r, changed := true, dropWanted := false } := by
  have differs : (x != b.state) = true := by simpa [queued] using other
  simp [Slot.become, differs, busy]

/-- R134, R135: a slot that becomes FREE loses its fields and has its changed flag set. -/
theorem Slot.become_free {b : Slot} (busy : b.state ≠ .free) :
    b.become .free none =
      { state := .free, mode := none, zones := [], reason := none, changed := true, dropWanted := false } := by
  have differs : (SlotState.free != b.state) = true := by simpa using busy.symm
  simp [Slot.become, differs]

/-! ### A CLAIM -/

/-- R12, R16 to R18: a CLAIM placed in a well-formed table: nothing more is granted. -/
theorem State.claimTaken_of_wf {s : State} {sender k : Nat} {m : Mode} {zones : List Nat}
    (wf : (s.table.place sender k m zones).Wf) :
    s.claimTaken sender k m zones =
      if sender = s.own then
        ({ s with table := s.table.place sender k m zones }).slotPlaced k (s.table.judgeClaim sender k m zones)
      else { s with table := s.table.place sender k m zones } := by
  unfold State.claimTaken
  rw [Table.grantPass_of_noneGrantable wf.2]
  rfl

/-- R138, R141: the entries and the spent flag after a placement. -/
theorem State.slotPlaced_outbound (s : State) (k : Nat) (p : Placement) :
    (s.slotPlaced k p).outbound = s.outbound ∨ (s.slotPlaced k p).outbound = s.outbound.request (.drop k) := by
  unfold State.slotPlaced
  split_ifs
  · cases p
    · exact .inr rfl
    · exact .inr rfl
    · exact .inl rfl
  · cases p <;> exact .inl rfl
  · exact .inl rfl

/-- R138: the outcome of a CLAIM at its QUEUED slot. -/
def Slot.placed (b : Slot) (p : Placement) : Slot :=
  match p with
  | .granted => { b with state := .granted, reason := none, changed := true }
  | .waiting => { b with state := .waiting, reason := none, changed := true }
  | .refused reason => { b with state := .refused, reason := some reason, changed := true }

theorem State.slotPlaced_of_queued {s : State} {k : Nat} (queued : (s.slotAt k).state = .queued)
    (wanted : (s.slotAt k).dropWanted = false) (p : Placement) :
    (s.slotPlaced k p).slots = s.slots.set k ((s.slotAt k).placed p) := by
  have placed : ∀ x r, x ≠ SlotState.queued → x ≠ .free →
      (s.updateSlot k (Slot.become x r)).slots =
        s.slots.set k { s.slotAt k with state := x, reason := r, changed := true } := fun x r other busy => by
    rw [State.updateSlot_slots_eq_set, Slot.become_of_queued queued other busy, ← wanted]
  unfold State.slotPlaced
  rw [if_pos queued, wanted, if_neg Bool.false_ne_true]
  cases p
  · exact placed _ _ (by simp) (by simp)
  · exact placed _ _ (by simp) (by simp)
  · exact placed _ _ (by simp) (by simp)

/-- R141: a drop-wanted slot whose CLAIM is placed is RELEASING, and its DROP is entered. -/
theorem State.slotPlaced_of_dropWanted {s : State} {k : Nat} (queued : (s.slotAt k).state = .queued)
    (wanted : (s.slotAt k).dropWanted = true) {p : Placement} (placed : p = .granted ∨ p = .waiting) :
    s.slotPlaced k p = (s.updateSlot k (Slot.become .releasing none)).request (.drop k) := by
  unfold State.slotPlaced
  rw [if_pos queued, wanted, if_pos rfl]
  obtain rfl | rfl := placed <;> rfl

/-- R141: a drop-wanted slot whose CLAIM is refused is FREE. -/
theorem State.slotPlaced_of_refused {s : State} {k : Nat} (queued : (s.slotAt k).state = .queued)
    (wanted : (s.slotAt k).dropWanted = true) (r : Reason) :
    s.slotPlaced k (.refused r) = s.updateSlot k (Slot.become .free none) := by
  unfold State.slotPlaced
  rw [if_pos queued, wanted, if_pos rfl]

/-- R134: clearing the drop-wanted flag of a slot that was just set with it clear. -/
theorem State.noDrop_of_set {s u : State} {k : Nat} {b : Slot} (set : u.slots = s.slots.set k b) (clear : b.dropWanted = false) :
    (u.updateSlot k fun b => { b with dropWanted := false }).slots = s.slots.set k b := by
  rw [State.updateSlot_slots_eq_set, set, List.set_set]
  by_cases inside : k < s.slots.length
  · have at_k : u.slotAt k = b := State.slotAt_of_getElem? (by rw [set]; simp [inside])
    rw [at_k, ← clear]
  · rw [List.set_eq_of_length_le (Nat.le_of_not_lt inside), List.set_eq_of_length_le (Nat.le_of_not_lt inside)]

theorem State.entered_slotAt (s : State) (obs : FrameObs) (k : Nat) : (s.entered obs).slotAt k = s.slotAt k := by
  simp only [State.slotAt, State.entered_slots]

/-- R12, R16: a member with the record of a CLAIM placed in its table, before the outcome reaches the slots. -/
def State.enteredPlaced (s : State) (obs : FrameObs) (k : Nat) (m : Mode) (zones : List Nat) : State :=
  { s.entered obs with table := (s.table.place obs.cells.sender k m zones).numbered (s.table.sequence + 1) }

/-- R8, R12, R16: the content of a CLAIM, at a well-formed table. -/
theorem State.tookContent_claim {s : State} {obs : FrameObs} {k : Nat} {m : Mode} {zones : List Nat} (inv : s.Inv)
    (synced : s.station = .synced) (parsed : s.parse obs.cells = some (.claim k m zones)) :
    s.tookContent obs (.claim k m zones) =
      if obs.cells.sender = s.own then
        (s.enteredPlaced obs k m zones).slotPlaced k (s.table.judgeClaim obs.cells.sender k m zones)
      else s.enteredPlaced obs k m zones := by
  have core := inv.cellInv
  have bound : s.zoneCount ≤ 64 := (core.config.bounds (by simp [synced])).2.2.1
  have table : (s.entered obs).table.place obs.cells.sender k m zones =
      (s.table.place obs.cells.sender k m zones).numbered (s.table.sequence + 1) := by
    rw [State.entered_table synced, Table.place_numbered]
  have wf : ((s.entered obs).table.place obs.cells.sender k m zones).Wf := by
    rw [table]
    exact (core.wf.place (State.claimRecord_fits parsed bound)).numbered _
  have judged : (s.entered obs).table.judgeClaim obs.cells.sender k m zones =
      s.table.judgeClaim obs.cells.sender k m zones := by
    rw [State.entered_table synced, Table.judgeClaim_numbered]
  have content : s.tookContent obs (.claim k m zones) = (s.entered obs).claimTaken obs.cells.sender k m zones :=
    if_pos ((s.entered_station obs).trans synced)
  rw [content, State.claimTaken_of_wf wf, judged, table, State.entered_own_number]
  rfl

/-- Settles O44: the placement reaches the table by `tookContent_claim` and the own slot by the cases of `slotPlaced`. -/
theorem takenClaimIsPlaced : Obligations.TakenClaimIsPlaced := by
  unfold Obligations.TakenClaimIsPlaced
  intro obs s k m zones inv synced heard who outcome b freed
  obtain ⟨-, -, -, parsed, -⟩ := id heard
  have tracks := State.tracksCensus_of_member (.inl synced)
  have content := State.tookContent_claim inv synced parsed
  set placed := s.enteredPlaced obs k m zones with hplaced
  have frame : s.tookContent obs (.claim k m zones) = { placed with
      outbound := (s.tookContent obs (.claim k m zones)).outbound
      slots := (s.tookContent obs (.claim k m zones)).slots } := by
    rw [content]
    split
    · rw [State.slotPlaced_frame]
    · rfl
  have whole := s.endsTaken_frame obs (.claim k m zones)
  rw [frame, hplaced, State.enteredPlaced, State.entered_frame] at whole
  refine ⟨_, State.exec_frameEnd_taken inv tracks heard (who.imp_right fun own => ⟨_, own⟩) (.inl (by simp)),
    by rw [whole]; exact synced, by rw [whole], by rw [whole]; rfl, by rw [whole]; rfl, ?_, ?_, ?_⟩
  · rw [State.endsTaken_attention parsed rfl, frame, hplaced, State.enteredPlaced, State.entered_frame]
    rfl
  · intro peer
    have other := peer.1
    rw [if_neg other] at content
    constructor
    · rw [s.endsTaken_frame]
      dsimp only
      rw [State.tookEntry_peer peer, content]
      exact s.entered_slots obs
    · rw [State.endsTaken_spent, State.tookEntry_peer peer, content]
      exact congrArg Outbound.spent (State.entered_peer peer)
  · intro own
    have mine := own.2.1
    rw [if_pos mine] at content
    have slot : placed.slotAt k = s.slotAt k := s.entered_slotAt obs k
    have slots_eq : placed.slots = s.slots := s.entered_slots obs
    have entry : s.tookEntry obs (.claim k m zones) =
        (placed.slotPlaced k outcome).updateSlot k fun b => { b with dropWanted := false } := by
      obtain ⟨e, sent, kind⟩ := State.HearsOwn.entry own
      rw [State.tookEntry_own own, content, sent]
      simp only [State.settleTaken, Option.map_some, kind]
      rfl
    have slots : ∀ c : Slot, c.dropWanted = false → (placed.slotPlaced k outcome).slots = s.slots.set k c →
        (s.endsTaken obs (.claim k m zones)).slots = s.slots.set k c := fun c clear set => by
      rw [s.endsTaken_frame]
      dsimp only
      rw [entry]
      exact State.noDrop_of_set set clear
    have outbound : (s.tookEntry obs (.claim k m zones)).outbound = (s.entered obs).outbound ∨
        (s.tookEntry obs (.claim k m zones)).outbound = (s.entered obs).outbound.request (.drop k) := by
      rw [entry, State.updateSlot_outbound]
      exact placed.slotPlaced_outbound k outcome
    refine ⟨?_, ?_, ?_, ?_, ?_⟩
    · rw [State.endsTaken_spent]
      have entered : (s.entered obs).outbound.spent = true := by
        rw [State.entered_own own]; simp [EntryKind.frameClass]
      rcases outbound with x | x <;> rw [x]
      · exact entered
      · rw [Outbound.request_spent, entered]
    · intro e he kind
      rw [State.mem_endsTaken (by simp [kind]) (by simp [kind])] at he
      have held : e ∈ (s.entered obs).outbound.entries := by
        rcases outbound with x | x <;> rw [x] at he
        · exact he
        · exact (Outbound.mem_request he).resolve_right (by simp [kind])
      have left := State.entered_not_answers inv own e held
      rw [kind, EntryKind.answers_self] at left
      contradiction
    · intro queued unwanted
      have set := State.slotPlaced_of_queued (s := placed) (by rw [slot]; exact queued) (by rw [slot]; exact unwanted) outcome
      rw [slot, slots_eq] at set
      refine (slots _ ?_ set).trans ?_
      · cases outcome <;> exact unwanted
      · cases outcome <;> rfl
    · intro queued wanted accepted
      have placement := State.slotPlaced_of_dropWanted (s := placed) (by rw [slot]; exact queued) (by rw [slot]; exact wanted)
        accepted
      constructor
      · refine slots _ rfl ?_
        rw [placement, State.request_slots, State.updateSlot_slots_eq_set, slot, slots_eq,
          Slot.become_of_queued queued (by simp) (by simp)]
      · have dropped : (s.tookEntry obs (.claim k m zones)).outbound = (s.entered obs).outbound.request (.drop k) := by
          rw [entry, State.updateSlot_outbound, placement]
          rfl
        obtain ⟨e, he, answers⟩ := (s.entered obs).outbound.exists_answers_request (.drop k)
        have kind : e.kind = .drop k := EntryKind.eq_of_answers rfl rfl answers
        refine ⟨e, ?_, kind⟩
        rw [State.mem_endsTaken (by simp [kind]) (by simp [kind]), dropped]
        exact he
    · intro reason queued wanted refused
      refine slots _ rfl ?_
      rw [refused, State.slotPlaced_of_refused (by rw [slot]; exact queued) (by rw [slot]; exact wanted),
        State.updateSlot_slots_eq_set, slot, slots_eq, Slot.become_free fun free => nomatch queued.symm.trans free]

end Sys2Proof.Machine
end

section
/-! A DROP and an EXPIRE taken (R14, R20, R21, R139, R142, R143). -/

namespace Sys2Proof.Machine

set_option Elab.async false

/-! ### Removal at a station (R14, R15, R139) -/

theorem Table.without_numbered (t : Table) (n : Word16) (gone : Nat → Nat → Bool) :
    (t.numbered n).without gone = (t.without gone).numbered n := by
  rw [Table.without, Table.remove_numbered, Table.grantPass_numbered]
  rfl

theorem Table.grantedWithout_numbered (t : Table) (n : Word16) (gone : Nat → Nat → Bool) :
    (t.numbered n).grantedWithout gone = t.grantedWithout gone := by
  rw [Table.grantedWithout, Table.remove_numbered, Table.grantPass_numbered]
  rfl

theorem State.entered_table_eq (s : State) (obs : FrameObs) :
    (s.entered obs).table = s.table.numbered
      (if s.station = .synced then s.table.sequence + 1 else s.table.sequence) := by
  rw [State.entered_frame]
  dsimp only
  split <;> rfl

/-- R15: the slots after a removal at a member that took a frame. -/
theorem State.entered_removeRecords_slots (s : State) (obs : FrameObs) (gone : Nat → Nat → Bool) :
    ((s.entered obs).removeRecords gone).slots = s.slotsAfterGrants (s.table.grantedWithout gone) := by
  rw [State.removeRecords_slots, State.entered_table_eq, Table.grantedWithout_numbered]
  simp only [State.slotsAfterGrants, State.entered_slots, State.entered_own_number]

/-- R139: a grant changes WAITING slots alone. -/
theorem State.slotAt_afterGrants {s u : State} {granted : List RecordRef} (h : u.slots = s.slotsAfterGrants granted) (k : Nat) :
    u.slotAt k = s.slotAt k ∨ (s.slotAt k).state = .waiting ∧ (u.slotAt k).state = .granted := by
  have at_k : u.slots[k]? = s.slots[k]?.map fun b =>
      if b.state = .waiting ∧ granted.any (fun r => r.owner == s.own && r.tag == k) = true then
        { b with state := .granted, reason := none, changed := true, dropWanted := false }
      else b := by
    rw [h]
    simp only [State.slotsAfterGrants, List.getElem?_map, List.getElem?_zipIdx, Option.map_map, Nat.zero_add]
    rfl
  cases found : s.slots[k]? with
  | none =>
    left
    simp only [State.slotAt, List.getD_eq_getElem?_getD, at_k, found]
    rfl
  | some b =>
    rw [found, Option.map_some] at at_k
    rw [State.slotAt_of_getElem? found, State.slotAt_of_getElem? at_k]
    split
    · rename_i grants
      exact .inr ⟨grants.1, rfl⟩
    · exact .inl rfl

/-! ### A DROP -/

theorem State.tookContent_drop {s : State} (synced : s.station = .synced) (obs : FrameObs) (k : Nat) :
    s.tookContent obs (.drop k) = (s.entered obs).dropTaken obs.cells.sender k :=
  if_pos ((s.entered_station obs).trans synced)

/-- R142: the slots after an own DROP. -/
theorem State.slotDropped_slots {s u : State} {granted : List RecordRef} (h : u.slots = s.slotsAfterGrants granted) (k : Nat) :
    (u.slotDropped k).slots =
      if (s.slotAt k).state = .releasing then
        (s.slotsAfterGrants granted).set k
          { state := .free, mode := none, zones := [], reason := none, changed := true, dropWanted := false }
      else s.slotsAfterGrants granted := by
  have same : (u.slotAt k).state = .releasing ↔ (s.slotAt k).state = .releasing := by
    obtain stays | ⟨waiting, granted⟩ := State.slotAt_afterGrants h k
    · rw [stays]
    · simp [waiting, granted]
  unfold State.slotDropped
  by_cases releasing : (u.slotAt k).state = .releasing
  · rw [if_pos releasing, if_pos (same.mp releasing), State.updateSlot_slots_eq_set, h,
      Slot.become_free fun free => nomatch releasing.symm.trans free]
  · rw [if_neg releasing, if_neg fun c => releasing (same.mpr c), h]

/-- Settles O45: the removal and its grants by `removeRecords`, the own slot by `slotDropped`. -/
theorem takenDropRemovesTheRecord : Obligations.TakenDropRemovesTheRecord := by
  unfold Obligations.TakenDropRemovesTheRecord
  intro obs s k inv synced heard who gone freed settled
  have parsed := heard.2.2.2.1
  have tracks := State.tracksCensus_of_member (.inl synced)
  have content := State.tookContent_drop synced obs k
  have entry : s.tookEntry obs (.drop k) = s.tookContent obs (.drop k) := State.tookEntry_plain who rfl rfl _
  have frame := content.trans (State.dropTaken_frame obs.cells.sender k (s.entered obs))
  rw [State.entered_table synced, Table.without_numbered, State.entered_frame] at frame
  have whole := s.endsTaken_frame obs (.drop k)
  rw [frame, entry, content] at whole
  have removed : ((s.entered obs).removeRecords gone).slots = settled := s.entered_removeRecords_slots obs gone
  have outbound : (s.tookEntry obs (.drop k)).outbound = (s.entered obs).outbound := by
    rw [entry, content, State.dropTaken_frame]
  have slots : (s.endsTaken obs (.drop k)).slots = ((s.entered obs).dropTaken obs.cells.sender k).slots := by rw [whole]
  refine ⟨_, State.exec_frameEnd_taken inv tracks heard (who.imp_right fun own => ⟨_, own⟩) (.inl (by simp)),
    by rw [whole]; exact synced, by rw [whole], by rw [whole]; rfl, by rw [whole]; rfl, ?_, ?_, ?_⟩
  · rw [State.endsTaken_attention parsed rfl, frame]
    rfl
  · intro peer
    refine ⟨?_, by rw [State.endsTaken_spent, outbound, State.entered_peer peer]⟩
    rw [slots, State.dropTaken, State.entered_own_number]
    rw [if_neg peer.1]
    exact removed
  · intro own
    refine ⟨?_, ?_, ?_⟩
    · rw [State.endsTaken_spent, outbound, State.entered_own own]
      simp [EntryKind.frameClass]
    · intro e he kind
      rw [State.mem_endsTaken (by simp [kind]) (by simp [kind]), outbound] at he
      have left := State.entered_not_answers inv own e he
      rw [kind, EntryKind.answers_self] at left
      contradiction
    · rw [slots, State.dropTaken, State.entered_own_number]
      rw [if_pos own.2.1]
      exact State.slotDropped_slots removed k

/-! ### An EXPIRE -/

theorem State.tookContent_expire {s : State} (synced : s.station = .synced) (obs : FrameObs) (k : Nat) :
    s.tookContent obs (.expire k) = (s.entered obs).expireTaken k :=
  if_pos ((s.entered_station obs).trans synced)

/-- R15: a grant pass reports records of the table alone. -/
theorem Table.Sound.mem_grantPass {t : Table} (h : t.Sound) {r : RecordRef} (granted : r ∈ t.grantPass.2) :
    ∃ q ∈ t.requests, q.ref = r := by
  obtain ⟨-, -, reported⟩ := h.grantPass
  rw [reported, grantedBetween] at granted
  obtain ⟨⟨q, p⟩, pair, rfl⟩ := List.mem_map.mp granted
  exact ⟨q, (List.of_mem_zip (List.mem_filter.mp pair).1).1, rfl⟩

/-- R139: where this station's own records all go, no own slot is granted. -/
theorem State.slotsAfterGrants_own {s : State} (wf : s.table.Wf) :
    s.slotsAfterGrants (s.table.grantedWithout fun o _ => o == s.own) = s.slots := by
  have others : ∀ i, (s.table.grantedWithout fun o _ => o == s.own).any (fun r => r.owner == s.own && r.tag == i) = false := by
    intro i
    rw [List.any_eq_false]
    intro r hr
    obtain ⟨q, stays, rfl⟩ := (wf.1.remove _).mem_grantPass hr
    have : (q.owner == s.own) = false := by simpa using (List.mem_filter.mp stays).2
    simp [Record.ref, this]
  simp [State.slotsAfterGrants, others]

/-- R143: a slot whose own record an EXPIRE removed. -/
def Slot.expired (b : Slot) : Slot :=
  match b.state with
  | .waiting => { b with state := .lost, reason := some .expired, changed := true, dropWanted := false }
  | .granted => { b with state := .lost, reason := some .expired, changed := true, dropWanted := false }
  | .releasing => { state := .free, mode := none, zones := [], reason := none, changed := true, dropWanted := false }
  | _ => b

theorem Slot.expired_expired (b : Slot) : b.expired.expired = b.expired := by
  cases x : b.state <;> simp [Slot.expired, x]

/-- R134, R135: a slot that becomes LOST from another state has its changed flag set. -/
theorem Slot.become_lost {b : Slot} (other : b.state ≠ .lost) (r : Reason) :
    b.become .lost (some r) = { b with state := .lost, reason := some r, changed := true, dropWanted := false } := by
  have differs : (SlotState.lost != b.state) = true := by simpa using other.symm
  simp [Slot.become, differs]

theorem State.slotExpired_slots (s : State) (tag : Nat) :
    (s.slotExpired tag).slots = s.slots.set tag (s.slotAt tag).expired := by
  have stays : (s.slotAt tag).expired = s.slotAt tag → s.slots = s.slots.set tag (s.slotAt tag).expired := fun e => by
    refine List.ext_getElem? fun i => ?_
    rw [e, List.getElem?_set]
    split
    · rename_i same
      split
      · rename_i inside
        rw [← same, List.getElem?_eq_getElem inside, State.slotAt_of_getElem? (List.getElem?_eq_getElem inside)]
      · rename_i outside
        exact List.getElem?_eq_none (Nat.le_of_not_lt (same ▸ outside))
    · rfl
  unfold State.slotExpired
  cases x : (s.slotAt tag).state with
  | waiting =>
    dsimp only
    rw [State.updateSlot_slots_eq_set, Slot.become_lost (by simp [x])]
    simp [Slot.expired, x]
  | granted =>
    dsimp only
    rw [State.updateSlot_slots_eq_set, Slot.become_lost (by simp [x])]
    simp [Slot.expired, x]
  | releasing =>
    dsimp only
    rw [State.discard_slots, State.updateSlot_slots_eq_set, Slot.become_free (by simp [x])]
    simp [Slot.expired, x]
  | _ => exact stays (by simp [Slot.expired, x])

theorem State.slotsExpired_getElem? (l : List Nat) (s : State) (i : Nat) :
    (l.foldl State.slotExpired s).slots[i]? = s.slots[i]?.map fun b => if i ∈ l then b.expired else b := by
  induction l generalizing s with
  | nil => simp
  | cons tag l ih =>
    rw [List.foldl_cons, ih, State.slotExpired_slots, List.getElem?_set]
    by_cases same : tag = i
    · subst same
      cases at_tag : s.slots[tag]? with
      | none => simp [List.getElem?_eq_none_iff.mp at_tag]
      | some b =>
        have inside : tag < s.slots.length := (List.getElem?_eq_some_iff.mp at_tag).1
        rw [if_pos rfl, if_pos inside, State.slotAt_of_getElem? at_tag]
        simp [Slot.expired_expired]
    · simp [same, Ne.symm same]

/-- R143: the slots after an EXPIRE of this station. -/
theorem State.slotsExpired_slots (l : List Nat) (s : State) :
    (l.foldl State.slotExpired s).slots = s.slots.zipIdx.map fun p => if p.2 ∈ l then p.1.expired else p.1 := by
  refine List.ext_getElem? fun i => ?_
  rw [State.slotsExpired_getElem?, List.getElem?_map, List.getElem?_zipIdx, Option.map_map]
  simp [Function.comp_def]

/-- R143: an EXPIRE of this station enters no entry. -/
theorem State.mem_slotsExpired {e : Entry} (l : List Nat) (s : State)
    (he : e ∈ (l.foldl State.slotExpired s).outbound.entries) : e ∈ s.outbound.entries := by
  induction l generalizing s with
  | nil => exact he
  | cons tag l ih =>
    have held := ih (s.slotExpired tag) he
    unfold State.slotExpired at held
    cases x : (s.slotAt tag).state <;> rw [x] at held
    case releasing => exact (List.mem_filter.mp held).1
    case lost => exact (List.mem_filter.mp held).1
    all_goals exact held

theorem State.slotsExpired_spent (l : List Nat) (s : State) :
    (l.foldl State.slotExpired s).outbound.spent = s.outbound.spent := by
  induction l generalizing s with
  | nil => rfl
  | cons tag l ih =>
    rw [List.foldl_cons, ih]
    unfold State.slotExpired
    cases (s.slotAt tag).state <;> rfl

/-- R143: the DROP entry of an expired RELEASING or LOST slot is withdrawn. -/
theorem State.slotsExpired_no_drop {j : Nat} (l : List Nat) (s : State) (hj : j ∈ l)
    (fenced : (s.slotAt j).state = .releasing ∨ (s.slotAt j).state = .lost) :
    ∀ e ∈ (l.foldl State.slotExpired s).outbound.entries, e.kind ≠ .drop j := by
  induction l generalizing s with
  | nil => exact absurd hj List.not_mem_nil
  | cons tag l ih =>
    rw [List.foldl_cons]
    by_cases here : tag = j
    · subst here
      intro e he
      have held := State.mem_slotsExpired l _ he
      unfold State.slotExpired at held
      rcases fenced with x | x <;> rw [x] at held
      all_goals
        have kept := (List.mem_filter.mp held).2
        simpa using kept
    · refine ih _ ((List.mem_cons.mp hj).resolve_left fun c => here c.symm) ?_
      have same : (s.slotExpired tag).slotAt j = s.slotAt j := by
        simp only [State.slotAt, List.getD_eq_getElem?_getD, State.slotExpired_slots, List.getElem?_set, if_neg here]
      rw [same]
      exact fenced

/-- Settles O46: the removal as at a DROP; where this station is the target no own slot is granted, and its slots and entries
are those of `slotsExpired`. -/
theorem takenExpireRemovesTheTarget : Obligations.TakenExpireRemovesTheTarget := by
  unfold Obligations.TakenExpireRemovesTheTarget
  intro obs s k inv synced heard who gone tags freed expired
  have parsed := heard.2.2.2.1
  have tracks := State.tracksCensus_of_member (.inl synced)
  have wf : s.table.Wf := inv.cellInv.wf
  have content := State.tookContent_expire synced obs k
  have entry : s.tookEntry obs (.expire k) = s.tookContent obs (.expire k) := State.tookEntry_plain who rfl rfl _
  have frame := content.trans (State.expireTaken_frame k (s.entered obs))
  rw [State.entered_table synced, Table.without_numbered, State.entered_frame] at frame
  have whole := s.endsTaken_frame obs (.expire k)
  rw [frame, entry, content] at whole
  have removed : ((s.entered obs).removeRecords gone).slots = s.slotsAfterGrants (s.table.grantedWithout gone) :=
    s.entered_removeRecords_slots obs gone
  have slots : (s.endsTaken obs (.expire k)).slots = ((s.entered obs).expireTaken k).slots := by rw [whole]
  have removal : (s.entered obs).expireTaken k =
      if k = s.own then tags.foldl State.slotExpired ((s.entered obs).removeRecords gone)
      else (s.entered obs).removeRecords gone := by
    unfold State.expireTaken
    rw [State.entered_own_number]
    by_cases own : k = s.own
    · have own_tags : (s.entered obs).ownTags = tags := by
        unfold State.ownTags
        rw [State.entered_table_eq, State.entered_own_number, ← own]
      simp only [if_pos own, own_tags]
      rfl
    · simp only [if_neg own]
      rfl
  have entries : ∀ e ∈ (s.endsTaken obs (.expire k)).outbound.entries,
      e ∈ ((s.entered obs).expireTaken k).outbound.entries ∧ e.kind ≠ .expire k := by
    intro e he
    have still : ¬(s.tookEntry obs (.expire k)).Defers s.census.freeze :=
      State.not_defers_of_census (by rw [entry, frame]; rfl)
    rw [s.endsTaken_frame, State.tookFrame] at he
    dsimp only at he
    rw [State.leaseWork_entries still, entry, content] at he
    obtain ⟨held, kept⟩ := List.mem_filter.mp he
    refine ⟨held, fun kind => ?_⟩
    rw [kind] at kept
    simp [State.mootAtEnd, State.expireMoot, Frame.expires] at kept
  refine ⟨_, State.exec_frameEnd_taken inv tracks heard (who.imp_right fun own => ⟨_, own⟩) (.inl (by simp)),
    by rw [whole]; exact synced, by rw [whole], by rw [whole]; rfl, by rw [whole]; rfl, ?_, ?_, fun e he => (entries e he).2,
    ?_, ?_⟩
  · rw [State.endsTaken_attention parsed rfl, frame]
    rfl
  · rw [State.endsTaken_spent, entry, content, removal]
    have kept : (s.entered obs).outbound.spent = s.outbound.spent := by
      obtain peer | own := who
      · rw [State.entered_peer peer]
      · rw [State.entered_own own]
        simp [EntryKind.frameClass]
    split
    · rw [State.slotsExpired_spent, State.removeRecords_outbound, kept]
    · rw [State.removeRecords_outbound, kept]
  · intro other
    rw [slots, removal, if_neg other]
    exact removed
  · intro own
    have same : ((s.entered obs).removeRecords gone).slots = s.slots := by
      rw [removed]
      simp only [gone, own]
      exact State.slotsAfterGrants_own wf
    rw [if_pos own] at removal
    refine ⟨?_, fun j hj fenced e he => ?_⟩
    · rw [slots, removal, State.slotsExpired_slots, same]
      rfl
    · have slot : ((s.entered obs).removeRecords gone).slotAt j = s.slotAt j := by simp only [State.slotAt, same]
      have held := (entries e he).1
      rw [removal] at held
      exact State.slotsExpired_no_drop tags _ hj (by rw [slot]; exact fenced) e held

end Sys2Proof.Machine
end

section
/-! A peer's LEAVE taken (R22, R57, R58, R62, R82, R87). -/

namespace Sys2Proof.Machine

set_option Elab.async false

/-! ### Sets in their listing -/

theorem not_contains_singleton (j peer : Nat) : (!List.contains [peer] j) = (j != peer) := by
  rw [Bool.eq_iff_iff]
  simp

theorem setDiff_of_listed {a : StationSet} (h : StationSet.Listed a) (b : StationSet) :
    setDiff a b = a.filter fun k => !b.contains k := by
  rw [h, filter_setOf]
  refine setOf_congr fun k hk => ?_
  rw [contains_setOf]
  simp [hk]

theorem setInter_of_listed {a : StationSet} (h : StationSet.Listed a) (b : StationSet) :
    setInter a b = a.filter fun k => b.contains k := by
  rw [h, filter_setOf]
  refine setOf_congr fun k hk => ?_
  rw [contains_setOf]
  simp [hk]

theorem StationSet.listed_setInter (a b : StationSet) : StationSet.Listed (setInter a b) := StationSet.listed_setOf _

/-- R49: the sets of a station's roster unit are in their listing. -/
theorem State.Inv.listed {s : State} (h : s.Inv) :
    StationSet.Listed s.roster.roster ∧ StationSet.Listed s.roster.synced := by
  obtain ⟨-, -, -, -, -, ⟨roster, -, synced, -, -⟩, -⟩ := h
  exact ⟨roster, synced ▸ StationSet.listed_setInter _ _⟩

/-! ### The designated sender and its CENSUS entry (R82, R87) -/

theorem candidatePool_eq (roster synced : StationSet) :
    candidatePool roster synced = if synced = [] then roster else synced := by
  simp only [candidatePool, List.isEmpty_iff]

/-- R82: the lowest station of the pool that is not passed over is the first in the listing. -/
theorem lowestCandidate_eq_head? {pool : StationSet} (h : StationSet.Listed pool) (passOver : StationSet) :
    lowestCandidate pool passOver = (pool.filter fun k => !passOver.contains k).head? :=
  (h.filter _).min?_eq_head?

theorem Census.redesignated_of_freeze {c : Census} {roster synced : StationSet} (freeze : c.freeze = true)
    (listed : StationSet.Listed roster) (listed' : StationSet.Listed synced) :
    let pool := if synced = [] then roster else synced
    let passOver := if pool.all c.passOver.contains = true then [] else c.passOver
    c.redesignated roster synced =
      { c with passOver := passOver, designated := (pool.filter fun j => !passOver.contains j).head? } := by
  intro pool passOver
  have pool_eq : candidatePool roster synced = pool := candidatePool_eq _ _
  have over_eq : passOverFor pool c.passOver = passOver := rfl
  have pool_listed : StationSet.Listed pool := by
    simp only [pool]
    split
    · exact listed
    · exact listed'
  rw [Census.redesignated, if_pos freeze, pool_eq, over_eq, lowestCandidate_eq_head? pool_listed]

theorem Census.redesignated_of_open {c : Census} (off : c.freeze = false) (roster synced : StationSet) :
    c.redesignated roster synced = { c with designated := none } := by
  rw [Census.redesignated, off, if_neg Bool.false_ne_true]

theorem Census.freeze_eq_false {c : Census} : c.freeze = false ↔ c.joiners = [] := by
  simp [Census.freeze]

theorem Census.freeze_eq_true {c : Census} : c.freeze = true ↔ c.joiners ≠ [] := by
  simp [Census.freeze]

/-- R87: where a designated sender stands only under the freeze, the designated sender and no other station holds a CENSUS
entry. -/
theorem State.keepCensusEntry_iff {s : State} (h : s.census.freeze = false → s.census.designated = none) :
    s.census.designated = some s.own ↔ ∃ e ∈ s.keepCensusEntry.outbound.entries, e.kind.isCensus = true := by
  unfold State.keepCensusEntry
  by_cases due : s.census.freeze = true ∧ s.census.designated = some s.own
  · rw [if_pos due]
    obtain ⟨e, he, answers⟩ := s.outbound.exists_answers_request (.census s.census.progress)
    refine ⟨fun _ => ⟨e, he, ?_⟩, fun _ => due.2⟩
    cases x : e.kind <;> simp [x, EntryKind.answers, EntryKind.isCensus] at answers ⊢
  · rw [if_neg due]
    constructor
    · intro own
      cases on : s.census.freeze
      · rw [h on] at own; contradiction
      · exact absurd ⟨on, own⟩ due
    · rintro ⟨e, he, census⟩
      have kept := (List.mem_filter.mp he).2
      rw [census] at kept
      contradiction

theorem State.keepCensusEntry_spent (s : State) : s.keepCensusEntry.outbound.spent = s.outbound.spent := by
  unfold State.keepCensusEntry
  split
  · exact Outbound.request_spent _ _
  · rfl

/-! ### The attention that a membership change raises (R62, R63) -/

theorem State.endsTaken_attention_membership {s : State} {obs : FrameObs} {f : Frame} (changes : f.changesMembership = true) :
    (s.endsTaken obs f).attention = { (s.tookContent obs f).attention with
      roster := .raised (octet obs.cells.sender)
      foreign := if s.foreignJoin obs.cells = true then .raised (octet obs.cells.sender)
        else (s.tookContent obs f).attention.foreign } := by
  have before : (s.tookFrame obs f).attention = (s.tookContent obs f).attention := by
    unfold State.tookFrame
    rw [State.leaseWork_frame, State.tookEntry_frame]
  unfold State.endsTaken
  rw [Frame.rosterDetail, changes, if_pos rfl, ← before]
  cases s.foreignJoin obs.cells <;> rfl

/-! ### A LEAVE -/

theorem State.leaveTaken_outbound (sender : Nat) (s : State) :
    ∃ u : State, u.own = s.own ∧ u.census = (s.leaveTaken sender).census ∧ u.outbound = s.outbound ∧
      (s.leaveTaken sender).outbound = u.keepCensusEntry.outbound := by
  refine ⟨({ s.removeRecords (fun o _ => o == sender) with roster := s.roster.drop [sender] }).redesignate, ?_, ?_, ?_, rfl⟩
  · rw [State.redesignate_eq, State.removeRecords_frame]; rfl
  · unfold State.leaveTaken
    rw [State.keepCensusEntry_frame]
  · rw [State.redesignate_outbound]
    exact State.removeRecords_outbound _ _

theorem State.tookContent_leave {s : State} {obs : FrameObs} (peer : s.HearsPeer obs) :
    s.tookContent obs .leave = (s.entered obs).leaveTaken obs.cells.sender :=
  if_neg (s.entered_own_number obs ▸ peer.1)

/-- Settles O47: the removal as at a DROP, the membership by `drop`, and the designation anew where the freeze is on. -/
theorem takenLeaveRemovesThePeer : Obligations.TakenLeaveRemovesThePeer := by
  unfold Obligations.TakenLeaveRemovesThePeer
  intro obs s inv where_ heard peer_heard peer gone members synced pool passOver
  have parsed := heard.2.2.2.1
  have tracks := State.tracksCensus_of_member (where_.imp_left And.left)
  obtain ⟨listed, listed'⟩ := inv.listed
  have place : s.TableWhere := inv.cellInv.place
  obtain ⟨-, -, -, -, -, -, ⟨undesignated, -, -⟩, -⟩ := id inv
  have content := State.tookContent_leave peer_heard
  have entry : s.tookEntry obs .leave = s.tookContent obs .leave := State.tookEntry_peer peer_heard _
  have drop_members : (s.roster.answered.drop [peer]).members = members := by
    simp only [RosterUnit.drop, RosterUnit.answered, members, List.filter_map]
    congr 1
    exact List.filter_congr fun m _ => not_contains_singleton _ _
  have drop_synced : (s.roster.answered.drop [peer]).synced = synced := by
    change setDiff s.roster.synced [peer] = synced
    rw [setDiff_of_listed listed']
    exact List.filter_congr fun j _ => not_contains_singleton _ _
  have drop_roster : (s.roster.answered.drop [peer]).roster = members.map Member.number := congrArg _ drop_members
  have roster_listed : StationSet.Listed (members.map Member.number) := by
    rw [← drop_roster, RosterUnit.drop_roster, RosterUnit.answered_roster]
    exact listed.filter _
  have census : ((s.entered obs).leaveTaken peer).census = (if s.census.joiners = [] then s.census else
      { s.census with passOver := passOver, designated := (pool.filter fun j => !passOver.contains j).head? }) := by
    rw [State.leaveTaken_census, State.entered_frame]
    change s.census.redesignated (s.roster.answered.drop [peer]).roster (s.roster.answered.drop [peer]).synced = _
    rw [drop_roster, drop_synced]
    split
    · rename_i none_joins
      have off := Census.freeze_eq_false.mpr none_joins
      rw [Census.redesignated_of_open off, ← undesignated off]
    · rename_i joins
      exact Census.redesignated_of_freeze (Census.freeze_eq_true.mpr joins) roster_listed (listed'.filter _)
  have frame := content.trans (State.leaveTaken_frame peer (s.entered obs))
  rw [census, State.entered_table_eq, Table.without_numbered, State.entered_frame] at frame
  have whole := s.endsTaken_frame obs .leave
  rw [frame, entry, content] at whole
  refine ⟨_, State.exec_frameEnd_taken inv tracks heard (.inl peer_heard) (.inr peer_heard.1), by rw [whole]; rfl, ?_, ?_,
    by rw [whole], ?_, ?_, ?_, ?_⟩
  · rw [whole]
    by_cases x : s.station = .synced
    · simp only [if_pos x]
      rfl
    · have away : s.station.holdsTable = false := by
        have syncing := where_.resolve_left fun c => x c.1
        simp [syncing, StationState.holdsTable]
      simp only [if_neg x, place away, Table.without_cleared]
  · rw [whole]
    change s.roster.answered.drop [peer] = _
    rw [← drop_members, ← drop_synced]
    rfl
  · obtain ⟨u, number, census_u, -, outbound⟩ := State.leaveTaken_outbound peer (s.entered obs)
    have held : (∃ e ∈ (s.endsTaken obs .leave).outbound.entries, e.kind.isCensus = true) ↔
        ∃ e ∈ u.keepCensusEntry.outbound.entries, e.kind.isCensus = true := by
      rw [← outbound, ← content, ← entry]
      refine exists_congr fun e => ?_
      by_cases part : e.kind.isCensus = true
      · rw [State.mem_endsTaken (fun k x => by simp [x, EntryKind.isCensus] at part)
          (fun x => by simp [x, EntryKind.isCensus] at part)]
      · simp [part]
    rw [held, ← State.keepCensusEntry_iff, census_u, number, State.entered_own_number, whole, census]
    rw [census_u, census]
    split
    · exact undesignated
    · rename_i joins
      exact fun off => absurd (Census.freeze_eq_false.mp off) joins
  · rw [s.endsTaken_frame]
    dsimp only
    rw [entry, content, State.leaveTaken_frame]
    exact s.entered_removeRecords_slots obs gone
  · have cls : obs.cells.frameClass = 1 := (State.parse_frameClass parsed).symm
    have familiar : s.foreignJoin obs.cells = false := by simp [State.foreignJoin, cls]
    rw [State.endsTaken_attention_membership rfl, familiar, frame]
    rfl
  · obtain ⟨u, -, -, outbound_u, outbound⟩ := State.leaveTaken_outbound peer (s.entered obs)
    rw [State.endsTaken_spent, entry, content, outbound, State.keepCensusEntry_spent, outbound_u, State.entered_peer peer_heard]

end Sys2Proof.Machine
end

section
/-! A JOIN taken at a member (R23, R54, R62, R63, R81 to R83, R87, R94 to R96). -/

namespace Sys2Proof.Machine

set_option Elab.async false

/-! ### The CENSUS entry and the JOIN entry when progress changes (R76, R87, R94) -/

/-- R87: the CENSUS entries of a station that holds the one it owes, and no other. -/
def State.duePart (s : State) : List Entry :=
  if s.census.freeze = true ∧ s.census.designated = some s.own then [Entry.fresh (.census s.census.progress)] else []

theorem EntryKind.isCensus_of_answers {a : EntryKind} {i : Nat} : a.answers (.census i) = a.isCensus := by
  cases a <;> rfl

/-- R87: with no CENSUS entry held, or already the one owed, the owed one is held afterwards. -/
theorem State.keepCensusEntry_parts {s : State}
    (held : (s.outbound.entries.filter fun e => e.kind.isCensus) = [] ∨
      (s.outbound.entries.filter fun e => e.kind.isCensus) = s.duePart) :
    (s.keepCensusEntry.outbound.entries.filter fun e => e.kind.isCensus) = s.duePart := by
  unfold State.keepCensusEntry
  by_cases due : s.census.freeze = true ∧ s.census.designated = some s.own
  · have owed : s.duePart = [Entry.fresh (.census s.census.progress)] := if_pos due
    rw [if_pos due, State.request_outbound]
    obtain ⟨answered, x⟩ | ⟨unanswered, x⟩ := s.outbound.request_cases (.census s.census.progress) <;> rw [x]
    · refine held.resolve_left fun none_held => ?_
      obtain ⟨e, he, answers⟩ := List.any_eq_true.mp answered
      rw [EntryKind.isCensus_of_answers] at answers
      exact absurd (List.mem_filter.mpr ⟨he, answers⟩) (none_held ▸ List.not_mem_nil)
    · have none_held : (s.outbound.entries.filter fun e => e.kind.isCensus) = [] := by
        rw [List.filter_eq_nil_iff]
        intro e he
        have := List.any_eq_false.mp unanswered e he
        rwa [EntryKind.isCensus_of_answers] at this
      rw [owed, List.filter_append, none_held]
      rfl
  · have owed : s.duePart = [] := if_neg due
    rw [if_neg due, owed, State.discard_outbound, Outbound.discard_entries, List.filter_filter]
    simp

/-- R87: a change of progress leaves the owed CENSUS entry and no other. -/
theorem State.progressChanged_parts (s : State) :
    (s.progressChanged.outbound.entries.filter fun e => e.kind.isCensus) = s.duePart := by
  have discarded : ((s.discard EntryKind.isCensus).outbound.entries.filter fun e => e.kind.isCensus) = [] := by
    rw [State.discard_outbound, Outbound.discard_entries, List.filter_filter]
    simp
  have made := State.keepCensusEntry_parts (s := s.discard EntryKind.isCensus) (.inl discarded)
  unfold State.progressChanged
  split
  · rw [← show (s.discard EntryKind.isCensus).duePart = s.duePart from rfl, ← made]
    dsimp only
    rw [State.discard_outbound, Outbound.discard_entries, List.filter_filter]
    refine List.filter_congr fun e _ => ?_
    cases e.kind <;> rfl
  · exact made

/-- R94: at a SYNCING station a change of progress leaves no JOIN entry. -/
theorem State.progressChanged_no_join {s : State} (syncing : s.station = .syncing) :
    ∀ e ∈ s.progressChanged.outbound.entries, e.kind.isJoin = false := by
  intro e he
  unfold State.progressChanged at he
  rw [if_pos syncing] at he
  simpa using (List.mem_filter.mp he).2

theorem State.resetRun_parts (s : State) :
    (s.resetRun.outbound.entries.filter fun e => e.kind.isCensus) =
      if s.resetRun.census.freeze = true ∧ s.resetRun.census.designated = some s.own then [Entry.fresh (.census 0)] else [] := by
  unfold State.resetRun
  rw [State.progressChanged_parts, State.progressChanged_frame, State.redesignate_eq]
  have progress : ∀ (c : Census) (r y : StationSet), (c.redesignated r y).progress = c.progress := fun c r y => by
    unfold Census.redesignated; split <;> rfl
  simp only [State.duePart, progress]
  rfl

theorem State.resetRun_no_join {s : State} (syncing : s.station = .syncing) :
    ∀ e ∈ s.resetRun.outbound.entries, e.kind.isJoin = false := by
  refine State.progressChanged_no_join ?_
  rw [State.redesignate_eq]
  exact syncing

/-- R94: no JOIN entry at the frame end, where the content left none. -/
theorem State.endsTaken_no_join {s : State} {obs : FrameObs} {f : Frame}
    (h : ∀ e ∈ (s.tookEntry obs f).outbound.entries, e.kind.isJoin = false) :
    ∀ e ∈ (s.endsTaken obs f).outbound.entries, e.kind.isJoin = false := by
  intro e he
  cases join : e.kind.isJoin
  · rfl
  · rw [State.mem_endsTaken (fun k x => by simp [x, EntryKind.isJoin] at join)
      (fun x => by simp [x, EntryKind.isJoin] at join)] at he
    rw [h e he] at join
    contradiction

/-! ### The joiner in the roster (R54) -/

theorem State.joinTaken_outbound (j : Nat) (pass : Bool) (standing : StationSet) (s : State) :
    ∃ u : State, u.own = s.own ∧ u.station = s.station ∧ (s.joinTaken j pass standing).outbound = u.resetRun.outbound ∧
      (s.joinTaken j pass standing).census = u.resetRun.census := by
  refine ⟨_, ?_, ?_, rfl, rfl⟩
  · dsimp only
    split
    · rw [State.removeRecords_frame]; rfl
    · rfl
  · dsimp only
    split
    · rw [State.removeRecords_frame]
    · rfl

/-- R54: with no misses in the roster, the joiner and every member stand in it with miss count 0. -/
theorem RosterUnit.enrol_members {r : RosterUnit} (h : ∀ m ∈ r.members, m.misses = 0) (j : Nat) :
    (r.enrol j).members = (setInsert j r.roster).map fun k => { number := k, misses := 0 } := by
  refine List.map_congr_left fun k _ => ?_
  rw [RosterUnit.missesOf_zero h, ite_self]

/-- R54: the roster numbers after a JOIN. -/
def State.joinMembers (s : State) (joiner : Nat) : StationSet :=
  setInsert joiner s.roster.roster

/-- R54: the synced set after a JOIN: the members that stood. -/
def State.joinSynced (s : State) (joiner : Nat) (standing : StationSet) : StationSet :=
  (s.joinMembers joiner).filter standing.contains

/-- R83, R95: the joiners set after a JOIN: the members that did not stand. -/
def State.joinOwed (s : State) (joiner : Nat) (standing : StationSet) : StationSet :=
  (s.joinMembers joiner).filter fun j => !(s.joinSynced joiner standing).contains j

theorem State.listed_joinMembers (s : State) (joiner : Nat) : StationSet.Listed (s.joinMembers joiner) := by
  unfold State.joinMembers setInsert
  exact StationSet.listed_setOf _

/-- R54: the roster unit after a JOIN at a member that every member answered. -/
theorem State.answered_enrol (s : State) (joiner : Nat) (standing : StationSet) :
    (s.roster.answered.enrol joiner).relearn standing =
      { members := (s.joinMembers joiner).map fun j => { number := j, misses := 0 }
        synced := s.joinSynced joiner standing
        clash := s.roster.clash } := by
  have members : (s.roster.answered.enrol joiner).members =
      (s.joinMembers joiner).map fun j => { number := j, misses := 0 } := by
    rw [RosterUnit.enrol_members (r := s.roster.answered) s.answered_noMisses, RosterUnit.answered_roster]
    rfl
  have synced : setInter (s.roster.answered.enrol joiner).roster standing = s.joinSynced joiner standing := by
    rw [RosterUnit.enrol_roster, RosterUnit.answered_roster]
    exact setInter_of_listed (s.listed_joinMembers joiner) standing
  unfold RosterUnit.relearn
  rw [members, synced]
  rfl

/-- R81: a joiner that did not stand brings the freeze. -/
theorem State.joinOwed_ne_nil (s : State) {joiner : Nat} {standing : StationSet} (number : joiner < Config.stationNumbers)
    (absent : joiner ∉ standing) : s.joinOwed joiner standing ≠ [] := by
  have member : joiner ∈ s.joinMembers joiner := by
    unfold State.joinMembers setInsert
    exact mem_setOf.mpr ⟨number, by simp⟩
  have joins : joiner ∈ s.joinOwed joiner standing := by
    refine List.mem_filter.mpr ⟨member, ?_⟩
    rw [Bool.not_eq_true', ← Bool.not_eq_true, List.contains_iff_mem]
    exact fun c => absent (List.contains_iff_mem.mp (List.mem_filter.mp c).2)
  exact List.ne_nil_of_mem joins

/-- R82, R83, R95: the census state after a JOIN whose sender did not stand. -/
theorem State.entered_joinTaken_census (s : State) (obs : FrameObs) (pass : Bool)
    (absent : obs.cells.sender ∉ obs.standing) :
    let members := s.joinMembers obs.cells.sender
    let synced := s.joinSynced obs.cells.sender obs.standing
    let passed := s.census.passedOver (pass && s.census.joiners.contains obs.cells.sender)
    let pool := if synced = [] then members else synced
    let passOver := if pool.all passed.contains = true then [] else passed
    ((s.entered obs).joinTaken obs.cells.sender pass obs.standing).census =
      { joiners := s.joinOwed obs.cells.sender obs.standing, passOver := passOver, progress := 0, runCount := none
        designated := (pool.filter fun j => !passOver.contains j).head?, staging := s.census.staging } := by
  intro members synced passed pool passOver
  have numbers : (members.map fun j => ({ number := j, misses := 0 } : Member)).map Member.number = members := by
    simp [Function.comp_def]
  have owed : setDiff members synced = s.joinOwed obs.cells.sender obs.standing :=
    setDiff_of_listed (s.listed_joinMembers _) _
  have freeze : ({ s.census with
      joiners := s.joinOwed obs.cells.sender obs.standing, passOver := passed, progress := 0
      runCount := none } : Census).freeze = true :=
    Census.freeze_eq_true.mpr (s.joinOwed_ne_nil (sender_lt _) absent)
  rw [State.joinTaken_census, State.entered_frame]
  dsimp only [State.answered]
  rw [State.answered_enrol, RosterUnit.owed, RosterUnit.roster]
  dsimp only
  rw [numbers, owed]
  exact Census.redesignated_of_freeze freeze (s.listed_joinMembers _) ((s.listed_joinMembers _).filter _)

/-- Settles O49: the roster by `answered_enrol`, the census state by `entered_joinTaken_census`, its CENSUS entry by
`resetRun_parts`. -/
theorem takenJoinBringsTheFreeze : Obligations.TakenJoinBringsTheFreeze := by
  unfold Obligations.TakenJoinBringsTheFreeze
  intro obs s pass inv station heard who absent joiner gone rejoin members synced passed pool passOver designated shown part
  have parsed := heard.2.2.2.1
  have tracks := State.tracksCensus_of_member station
  have who : s.HearsPeer obs ∨ s.HearsOwn obs (.join pass) := who.imp_right And.right
  have content : s.tookContent obs (.join pass) = (s.entered obs).joinTaken joiner pass obs.standing := rfl
  have entry : s.tookEntry obs (.join pass) = s.tookContent obs (.join pass) := State.tookEntry_plain who rfl rfl _
  have census : ((s.entered obs).joinTaken joiner pass obs.standing).census =
      { joiners := members.filter (fun j => !synced.contains j), passOver := passOver, progress := 0,
        runCount := none, designated := designated, staging := s.census.staging } := by
    have passed_eq : s.census.passedOver (pass && s.census.joiners.contains joiner) = passed := by
      simp only [passed, Census.passedOver]
      cases pass && s.census.joiners.contains joiner <;> cases s.census.designated <;> rfl
    have made := s.entered_joinTaken_census obs pass absent
    rw [passed_eq] at made
    exact made
  have rejoins : (s.entered obs).rejoins joiner ↔ rejoin := by
    have same : (s.entered obs).isMember joiner = s.isMember joiner := by
      rw [State.entered_frame]
      exact congrArg (List.contains · joiner) s.roster.answered_roster
    simp only [State.rejoins, State.entered_station, same, rejoin]
  have frame := content.trans (State.joinTaken_frame joiner pass obs.standing (s.entered obs))
  rw [State.entered_table_eq, Table.without_numbered, census] at frame
  have whole := s.endsTaken_frame obs (.join pass)
  rw [entry, frame] at whole
  have parts : ((s.endsTaken obs (.join pass)).outbound.entries.filter fun e => e.kind.isCensus) =
      if designated = some s.own then [part] else [] := by
    obtain ⟨u, number, -, outbound, census_u⟩ := State.joinTaken_outbound joiner pass obs.standing (s.entered obs)
    have freeze : ((s.entered obs).joinTaken joiner pass obs.standing).census.freeze = true := by
      rw [census]
      exact Census.freeze_eq_true.mpr (s.joinOwed_ne_nil (sender_lt _) absent)
    rw [State.endsTaken_filter (fun _ => rfl) rfl, entry, content, outbound, State.resetRun_parts, ← census_u, freeze, number,
      State.entered_own_number, census]
    simp only [true_and]
    rfl
  have no_join : s.station = .syncing → ∀ e ∈ (s.endsTaken obs (.join pass)).outbound.entries, e.kind.isJoin = false := by
    intro syncing
    refine State.endsTaken_no_join ?_
    obtain ⟨u, -, station, outbound, -⟩ := State.joinTaken_outbound joiner pass obs.standing (s.entered obs)
    rw [entry, content, outbound]
    exact State.resetRun_no_join (station.trans ((s.entered_station obs).trans syncing))
  refine ⟨_, State.exec_frameEnd_taken inv tracks heard (who.imp_right fun own => ⟨_, own⟩) (.inl (by simp)), ?_, ?_, ?_, ?_, ?_,
    ?_, parts, fun syncing => ⟨?_, no_join syncing⟩, ?_, ?_⟩
  · rw [whole]; exact s.entered_station obs
  · rw [whole]; dsimp only; simp only [rejoins]; split <;> rfl
  · rw [whole]; dsimp only; simp only [rejoins]; split <;> rfl
  · rw [whole]; dsimp only; split <;> rfl
  · rw [whole, State.entered_frame]
    exact s.answered_enrol joiner obs.standing
  · rw [whole]
  · rw [State.endsTaken_window, frame]
    dsimp only
    rw [if_pos ((s.entered_station obs).trans syncing), State.entered_frame]
    rfl
  · rw [s.endsTaken_frame]
    dsimp only
    rw [entry, frame]
    simp only [rejoins, State.entered_slots]
    split
    · exact s.entered_removeRecords_slots obs gone
    · rfl
  · rw [State.endsTaken_attention_membership rfl, frame, State.entered_frame]
    rfl

end Sys2Proof.Machine
end

section
/-! A CENSUS part taken at a member (R25, R26, R66, R70, R87 to R94). -/

namespace Sys2Proof.Machine

set_option Elab.async false

/-! ### The leases after the frame end (R66, R70) -/

/-- R66: the lease of a peer after the lease unit's work. -/
theorem State.leaseWork_leaseOf (renewed expired : Option Nat) (own frozen : Bool) (s : State) (k : Nat) :
    (s.leaseWork renewed expired own frozen).lease.leaseOf k =
      if k < Config.stationNumbers ∧ k ≠ s.own ∧ 0 < s.table.countOf k then s.leaseAfter renewed k else .inactive := by
  unfold LeaseUnit.leaseOf
  rw [State.leaseWork_leases, State.leasesAfter, List.find?_map]
  have found : (setOf fun j => j != s.own && decide (0 < s.table.countOf j)).find?
      ((fun x : Lease => x.peer == k) ∘ fun j => { peer := j, timer := s.leaseAfter renewed j }) =
      if k < Config.stationNumbers ∧ k ≠ s.own ∧ 0 < s.table.countOf k then some k else none := by
    split
    · rename_i owns
      have member : k ∈ setOf fun j => j != s.own && decide (0 < s.table.countOf j) :=
        mem_setOf.mpr ⟨owns.1, by simpa using owns.2⟩
      cases x : (setOf fun j => j != s.own && decide (0 < s.table.countOf j)).find?
          ((fun x : Lease => x.peer == k) ∘ fun j => { peer := j, timer := s.leaseAfter renewed j }) with
      | none =>
        have := List.find?_eq_none.mp x k member
        simp at this
      | some j =>
        have := List.find?_some x
        simp only [Function.comp_apply, beq_iff_eq] at this
        rw [this]
    · rename_i not_owns
      rw [List.find?_eq_none]
      intro j hj same
      simp only [Function.comp_apply, beq_iff_eq] at same
      obtain ⟨small, owns⟩ := mem_setOf.mp (same ▸ hj)
      exact not_owns ⟨small, by simpa using owns⟩
  rw [found]
  split <;> rfl

/-- R70: after the requests for a list of EXPIRE entries every one is held. -/
theorem State.requests_hold (l : List Lease) (s : State) :
    ∀ x ∈ l, ∃ e ∈ (l.foldl (fun u x => u.request (.expire x.peer)) s).outbound.entries, e.kind = .expire x.peer := by
  have grows : ∀ (l : List Lease) (s : State) (e : Entry), e ∈ s.outbound.entries →
      e ∈ (l.foldl (fun u x => u.request (.expire x.peer)) s).outbound.entries := by
    intro l
    induction l with
    | nil => exact fun _ _ he => he
    | cons y l ih =>
      intro s e he
      refine ih _ e ?_
      rw [State.request_outbound]
      obtain ⟨-, h⟩ | ⟨-, h⟩ := s.outbound.request_cases (.expire y.peer) <;> rw [h]
      · exact he
      · exact List.mem_append_left _ he
  induction l generalizing s with
  | nil => exact fun x hx => absurd hx List.not_mem_nil
  | cons y l ih =>
    intro x hx
    rw [List.foldl_cons]
    rcases List.mem_cons.mp hx with rfl | hx
    · obtain ⟨e, he, answers⟩ := s.outbound.exists_answers_request (.expire x.peer)
      exact ⟨e, grows l _ e he, EntryKind.eq_of_answers rfl rfl answers⟩
    · exact ih _ x hx

/-- R70: at the end of the freeze every lease found reached has its EXPIRE entry. -/
theorem State.leaseWork_deferred {s : State} {frozen : Bool} (h : s.Defers frozen) (renewed expired : Option Nat) (own : Bool)
    {k : Nat} (reached : (s.leaseWork renewed expired own frozen).lease.leaseOf k = .reached) :
    ∃ e ∈ (s.leaseWork renewed expired own frozen).outbound.entries, e.kind = .expire k := by
  rw [State.leaseWork_of_defers h] at reached ⊢
  set u := (({ s with lease := { s.lease with leases := s.leasesAfter renewed } }).ownTimersAfter own).discard
    (s.mootAtEnd renewed expired own)
  have same : u.enterDeferred.lease = u.lease := by
    unfold State.enterDeferred
    rw [State.requests_frame]
  rw [same] at reached
  unfold LeaseUnit.leaseOf at reached
  cases found : u.lease.leases.find? fun x => x.peer == k with
  | none => rw [found] at reached; contradiction
  | some x =>
    rw [found] at reached
    have peer : x.peer = k := by simpa using List.find?_some found
    have waits : x ∈ u.lease.leases.filter fun l => l.timer == .reached :=
      List.mem_filter.mpr ⟨List.mem_of_find?_eq_some found, by simpa using reached⟩
    exact peer ▸ State.requests_hold _ u x waits

/-! ### A part at the census state and the entries (R87, R89 to R92, R94) -/

/-- R89, R91: the part is the last of its run. -/
abbrev State.LastPart (s : State) (p : Part) : Prop :=
  some (s.census.progress + 1) = s.census.countAfter p

/-- R89: a part that is not the last moves progress on. -/
theorem State.censusTaken_of_not_last {s : State} {p : Part} (h : ¬s.LastPart p) :
    s.censusTaken p = ({ s with census := s.partTaken p } : State).progressChanged :=
  if_neg h

/-- R87, R91: the last part leaves no CENSUS entry. -/
theorem State.censusTaken_no_part {s : State} {p : Part} (h : s.LastPart p) :
    ((s.censusTaken p).outbound.entries.filter fun e => e.kind.isCensus) = [] := by
  rw [List.filter_eq_nil_iff]
  intro e he
  unfold State.censusTaken at he
  rw [if_pos h] at he
  have kept : e ∈ (s.outbound.discard EntryKind.isCensus).entries := by
    split at he
    · exact (List.mem_filter.mp he).1
    · exact he
  simpa using (List.mem_filter.mp kept).2

theorem State.censusTaken_no_join {s : State} {p : Part} (syncing : s.station = .syncing) :
    ∀ e ∈ (s.censusTaken p).outbound.entries, e.kind.isJoin = false := by
  by_cases last : s.LastPart p
  · intro e he
    unfold State.censusTaken at he
    rw [if_pos last, if_pos syncing] at he
    simpa using (List.mem_filter.mp he).2
  · rw [State.censusTaken_of_not_last last]
    exact State.progressChanged_no_join syncing

theorem State.progressChanged_spent (s : State) : s.progressChanged.outbound.spent = s.outbound.spent := by
  have made : (s.discard EntryKind.isCensus).keepCensusEntry.outbound.spent = s.outbound.spent :=
    State.keepCensusEntry_spent _
  unfold State.progressChanged
  split
  · exact made
  · exact made

theorem State.censusTaken_spent (p : Part) (s : State) : (s.censusTaken p).outbound.spent = s.outbound.spent := by
  by_cases last : s.LastPart p
  · unfold State.censusTaken
    rw [if_pos last]
    split <;> rfl
  · rw [State.censusTaken_of_not_last last, State.progressChanged_spent]

theorem State.censusTaken_window (p : Part) {s : State} (syncing : s.station = .syncing) :
    (s.censusTaken p).lease.window = if s.LastPart p then .inactive else .running s.durations.window := by
  by_cases last : s.LastPart p
  · rw [if_pos last]
    unfold State.censusTaken
    rw [if_pos last, if_pos syncing]
    rfl
  · rw [if_neg last, State.censusTaken_of_not_last last, State.progressChanged_frame]
    exact if_pos syncing

/-- R87: what the own part leaves behind, beside the content: the owed CENSUS entry, which stands already. -/
theorem State.tookEntry_part {s : State} {obs : FrameObs} {p : Part}
    (who : s.HearsPeer obs ∨ ∃ i, s.HearsOwn obs (.census i)) :
    s.tookEntry obs (.census p) = s.tookContent obs (.census p) ∨
      s.tookEntry obs (.census p) = (s.tookContent obs (.census p)).keepCensusEntry := by
  obtain peer | ⟨i, own⟩ := who
  · exact .inl (State.tookEntry_peer peer _)
  · obtain ⟨e, sent, kind⟩ := State.HearsOwn.entry own
    rw [State.tookEntry_own own, sent]
    exact .inr (by simp only [State.settleTaken, Option.map_some, kind])

/-- R87: after a part the CENSUS entry that the station owes is held, and no other. -/
theorem State.censusTaken_parts (s : State) (p : Part) :
    ((s.censusTaken p).outbound.entries.filter fun e => e.kind.isCensus) = (s.censusTaken p).duePart := by
  by_cases last : s.LastPart p
  · have off : (s.censusTaken p).census.freeze = false := by
      rw [State.censusTaken_census, if_pos last]
      split <;> rfl
    rw [State.censusTaken_no_part last, State.duePart, off]
    rfl
  · rw [State.censusTaken_of_not_last last, State.progressChanged_parts]
    rw [State.progressChanged_frame]
    rfl

theorem State.tookContent_part_frame (s : State) (obs : FrameObs) (p : Part) :
    s.tookContent obs (.census p) = (s.entered obs).censusTaken p := rfl

theorem State.keepCensusEntry_no_join {s : State} (h : ∀ e ∈ s.outbound.entries, e.kind.isJoin = false) :
    ∀ e ∈ s.keepCensusEntry.outbound.entries, e.kind.isJoin = false := by
  intro e he
  unfold State.keepCensusEntry at he
  split at he
  · rcases Outbound.mem_request he with held | kind
    · exact h e held
    · rw [kind]; rfl
  · exact h e (List.mem_filter.mp he).1

section
variable {s : State} {obs : FrameObs} {p : Part} (who : s.HearsPeer obs ∨ ∃ i, s.HearsOwn obs (.census i))
include who

theorem State.tookEntry_part_frame :
    s.tookEntry obs (.census p) = { (s.entered obs).censusTaken p with outbound := (s.tookEntry obs (.census p)).outbound } := by
  obtain x | x := State.tookEntry_part (p := p) who <;> rw [x]
  · rfl
  · rw [State.keepCensusEntry_frame]
    rfl

theorem State.endsTaken_part_parts :
    ((s.endsTaken obs (.census p)).outbound.entries.filter fun e => e.kind.isCensus) =
      ((s.entered obs).censusTaken p).duePart := by
  rw [State.endsTaken_filter (fun _ => rfl) rfl]
  have content := (s.entered obs).censusTaken_parts p
  obtain x | x := State.tookEntry_part (p := p) who <;> rw [x]
  · exact content
  · exact State.keepCensusEntry_parts (.inr content)

theorem State.endsTaken_part_no_join (syncing : s.station = .syncing) :
    ∀ e ∈ (s.endsTaken obs (.census p)).outbound.entries, e.kind.isJoin = false := by
  refine State.endsTaken_no_join ?_
  have content := State.censusTaken_no_join (s := s.entered obs) (p := p) ((s.entered_station obs).trans syncing)
  obtain x | x := State.tookEntry_part (p := p) who <;> rw [x]
  · exact content
  · exact State.keepCensusEntry_no_join content

theorem State.endsTaken_part_spent : (s.endsTaken obs (.census p)).outbound.spent = s.outbound.spent := by
  have content : ((s.entered obs).censusTaken p).outbound.spent = s.outbound.spent := by
    rw [State.censusTaken_spent]
    obtain peer | ⟨i, own⟩ := who
    · rw [State.entered_peer peer]
    · rw [State.entered_own own]
      simp [EntryKind.frameClass]
  rw [State.endsTaken_spent]
  obtain x | x := State.tookEntry_part (p := p) who <;> rw [x]
  · exact content
  · rw [State.keepCensusEntry_spent]
    exact content

theorem State.endsTaken_part_frame :
    s.endsTaken obs (.census p) = { (s.entered obs).censusTaken p with
      outbound := (s.endsTaken obs (.census p)).outbound
      lease := (s.endsTaken obs (.census p)).lease
      attention := (s.endsTaken obs (.census p)).attention } := by
  rw [State.endsTaken_frame, State.tookEntry_part_frame who]
  rfl

end

/-- R66: the leases after the end of a frame with a CENSUS part. -/
theorem State.endsTaken_lease (s : State) (obs : FrameObs) (f : Frame) :
    (s.endsTaken obs f).lease = (s.tookFrame obs f).lease := by
  rw [State.endsTaken_frame]

/-- R66: at a SYNCING station, which has no lease, the one of a peer with records starts running. -/
theorem State.leaseAfter_of_no_leases {s : State} (h : s.lease.leases = []) (renewed : Option Nat) (k : Nat) :
    s.leaseAfter renewed k = .running s.durations.lease := by
  have inactive : s.lease.leaseOf k = .inactive := by simp [LeaseUnit.leaseOf, h]
  simp [State.leaseAfter, inactive]

theorem Table.countOf_pos (t : Table) (k : Nat) : 0 < t.countOf k ↔ ∃ r ∈ t.requests, r.owner = k := by
  simp [Table.countOf, List.length_pos_iff_exists_mem]

/-- Settles O51: the census state by `censusTaken_census`, the entries by `censusTaken_parts`, and the leases at the last part
by `leaseWork_leaseOf` and `leaseWork_deferred`. -/
theorem takenCensusPartAdvances : Obligations.TakenCensusPartAdvances := by
  unfold Obligations.TakenCensusPartAdvances
  intro obs s p inv station heard who count staged part members synced
  have parsed := heard.2.2.2.1
  have tracks := State.tracksCensus_of_member station
  have run := State.exec_frameEnd_taken inv tracks heard (who.imp_right fun ⟨i, own⟩ => ⟨_, own⟩) (.inl (by simp))
  have attention := State.endsTaken_attention parsed rfl
  rw [State.tookContent_part_frame] at attention
  have window := State.endsTaken_window s obs (.census p)
  rw [State.tookContent_part_frame] at window
  have whole := State.endsTaken_part_frame (p := p) who
  have frame := State.censusTaken_frame p (s.entered obs)
  have last_iff : (s.entered obs).LastPart p ↔ some (s.census.progress + 1) = count := by
    rw [State.entered_frame]; rfl
  have slots : (s.endsTaken obs (.census p)).slots = s.slots := by
    rw [whole, frame]
    exact s.entered_slots obs
  have census := State.censusTaken_census p (s.entered obs)
  have synced_set := State.censusTaken_synced p (s.entered obs)
  constructor
  · intro not_last
    have not_last' : ¬(s.entered obs).LastPart p := fun c => not_last (last_iff.mp c)
    have no_install : ¬(s.entered obs).installs p := fun c => not_last' c.2
    rw [if_neg not_last'] at census synced_set
    refine ⟨_, run, ?_, ?_, ?_, ?_, ?_, ?_, ?_, fun syncing => ⟨?_, State.endsTaken_part_no_join who syncing⟩, slots, ?_,
      State.endsTaken_part_spent who⟩
    · rw [whole, frame]
      simp only [if_neg no_install]
      exact s.entered_station obs
    · rw [whole, frame]
      simp only [if_neg no_install, State.entered_table_eq]
    · rw [whole, frame]
      simp only [if_neg no_install, State.entered_table_eq]
    · rw [whole, frame]
      simp only [if_neg no_install, State.entered_table_eq]
    · rw [whole, frame]
      dsimp only
      rw [synced_set, State.entered_frame]
      rfl
    · rw [whole]
      dsimp only
      rw [census, State.entered_frame]
      rfl
    · rw [State.endsTaken_part_parts who]
      have owed : ((s.entered obs).censusTaken p).own = s.own := by
        rw [State.censusTaken_frame]
        exact s.entered_own_number obs
      unfold State.duePart
      rw [census, owed, State.entered_frame]
      simp only [Census.freeze_eq_true]
      rfl
    · rw [window, State.censusTaken_window p ((s.entered_station obs).trans syncing), if_neg not_last', State.entered_frame]
      rfl
    · rw [attention, frame]
      simp only [if_neg no_install]
      rw [State.entered_frame]
      rfl
  · intro last
    have last' : (s.entered obs).LastPart p := last_iff.mpr last
    rw [if_pos last'] at census synced_set
    have installs : (s.entered obs).installs p ↔ s.station = .syncing := by
      rw [State.installs, State.entered_station]
      exact ⟨And.left, fun syncing => ⟨syncing, last'⟩⟩
    have stays_out : s.station = .synced → ¬(s.entered obs).installs p := fun is_synced c =>
      nomatch is_synced.symm.trans (installs.mp c)
    have lease := s.endsTaken_lease obs (.census p)
    have cleared : ((s.entered obs).censusTaken p).census = Census.cleared := by
      rw [census, State.partTaken]
      by_cases syncing : (s.entered obs).station = .syncing
      · rw [if_pos syncing]
        rfl
      · simp only [if_neg syncing]
        rfl
    have ends_synced : ((s.entered obs).censusTaken p).station = .synced := by
      rw [frame]
      dsimp only
      split
      · rfl
      · rename_i stays
        exact (s.entered_station obs).trans (station.resolve_right fun syncing => stays (installs.mpr syncing))
    refine ⟨_, run, ?_, fun is_synced => ⟨?_, ?_⟩,
      fun syncing => ⟨?_, ?_, State.endsTaken_part_no_join who syncing, ?_, ?_⟩, ?_, ?_, ?_, ?_, slots,
      State.endsTaken_part_spent who⟩
    · rw [whole]
      exact ends_synced
    · have no_install := stays_out is_synced
      rw [whole, frame]
      simp only [if_neg no_install, State.entered_table is_synced]
    · have no_install := stays_out is_synced
      rw [attention, frame]
      simp only [if_neg no_install]
      rw [State.entered_frame]
      rfl
    · rw [whole, frame]
      simp only [if_pos (installs.mpr syncing)]
      rw [State.entered_frame]
      rfl
    · rw [window, State.censusTaken_window p ((s.entered_station obs).trans syncing), if_pos last']
    · intro k
      obtain ⟨-, -, -, -, -, -, -, -, -, ⟨peers, -⟩⟩ := inv
      have no_leases : (s.tookEntry obs (.census p)).lease.leases = [] := by
        rw [State.tookEntry_part_frame who, frame, State.entered_frame]
        change s.lease.leases = []
        simpa [syncing] using peers
      have table : (s.tookEntry obs (.census p)).table = (s.endsTaken obs (.census p)).table := by
        rw [whole, State.tookEntry_part_frame who]
      have number : (s.tookEntry obs (.census p)).own = s.own := by
        rw [State.tookEntry_part_frame who, frame]
        exact s.entered_own_number obs
      have durations : (s.tookEntry obs (.census p)).durations = s.durations := by
        rw [State.tookEntry_part_frame who, frame, State.entered_frame]
        rfl
      rw [lease, State.tookFrame, State.leaseWork_leaseOf, State.leaseAfter_of_no_leases no_leases, durations, number, table]
      simp only [Table.countOf_pos]
    · rw [attention, frame]
      simp only [if_pos (installs.mpr syncing)]
      rw [State.entered_frame]
      rfl
    · rw [whole, frame]
      dsimp only
      rw [synced_set, State.entered_frame]
      have union : setUnion s.roster.synced (setInter s.census.joiners s.roster.answered.roster) = synced := by
        refine setOf_congr fun j hj => ?_
        rw [setInter, contains_setOf, RosterUnit.answered_roster, decide_eq_true hj, Bool.true_and]
        rfl
      rw [← union]
      rfl
    · rw [whole]
      exact cleared
    · have none_due : ((s.entered obs).censusTaken p).duePart = [] := by
        rw [State.duePart, cleared]
        rfl
      have none_held := (State.endsTaken_part_parts (p := p) who).trans none_due
      intro e he
      simpa using List.filter_eq_nil_iff.mp none_held e he
    · intro joins k reached
      rw [lease] at reached
      rw [s.endsTaken_frame]
      have defers : (s.tookEntry obs (.census p)).Defers s.census.freeze := by
        rw [State.tookEntry_part_frame who]
        refine ⟨Census.freeze_eq_true.mpr joins, ?_, ends_synced⟩
        rw [cleared]
        rfl
      exact State.leaseWork_deferred defers _ _ _ reached

end Sys2Proof.Machine
end

section
namespace Sys2Proof.Machine

set_option Elab.async false

/-! ### The step of SlotsAgreeWithTheTable at a frame counted past its end

`State.phaseBit` ends a frame at the last bit of a standing call whatever the frame's class, while `State.ending` looks for
a frame end there in a JOIN alone, and no part of `State.Inv` bounds the position that the line unit has counted. So a state
whose CLAIM has been counted past its verdict bits brings a frame end of which `State.SoundStep` says nothing. -/

/-- A CLAIM of station 5 (tag 0, SHARED, zone 0), received GOOD and TAKEN, counted on to the place where the standing call
of a JOIN ends in a cell of 8 roster slots. -/
def overrunRx : Rx :=
  { position := 10 * (4 + 3) + 3 + 2 * 8, cell := [], octets := [0xA5, 3, 0, 1, 0, 0xBB, 0xD5], endFault := false
    rollCall := [3], verdict1 := .rest, verdict2 := .rest, standing := [] }

/-- Station 3, alone in its cell and SYNCED with an empty table, one sample before it reads that bit. -/
def overrunStation : State :=
  { State.reset with
    station := .synced
    config := { ConfigSet.reset with station := 3, rosterSlots := 8, zoneCount := 16 }
    roster := { members := [{ number := 3, misses := 0 }], synced := [3], clash := false }
    line := { LineUnit.reset with sampling := true, tracking := .frame, phase := 9, divider := 7, rx := some overrunRx } }

theorem overrunStation_inv : overrunStation.Inv :=
  ⟨by decide +kernel, by decide +kernel, by decide +kernel, by decide +kernel, by decide +kernel, by decide +kernel,
    by decide +kernel, by decide +kernel, by decide +kernel, by decide +kernel⟩

/-- No sample of the step is disturbed in the sense of SoundStep, since the step has no frame end in the sense of `ending`. -/
theorem overrunStation_soundStep : overrunStation.SoundStep overrunStation.clock := by
  have none_ends : overrunStation.ending overrunStation.clock = none := by decide +kernel
  exact ⟨fun obs h => by simp [none_ends] at h, fun h => absurd h (by decide)⟩

/-- The step places the CLAIM of station 5, which is no member. -/
theorem overrunStation_clock_owner :
    (∃ r ∈ overrunStation.clock.table.requests, r.owner = 5) ∧ overrunStation.clock.isMember 5 = false := by
  decide +kernel

/-- Refutes O57: a state that meets every premise and whose next CLKIN cycle brings a stranger's record into the table. -/
theorem not_slotsAgreeWithTheTable : ¬ Obligations.SlotsAgreeWithTheTable := by
  unfold Obligations.SlotsAgreeWithTheTable
  intro h
  obtain ⟨⟨r, hr, owner⟩, stranger⟩ := overrunStation_clock_owner
  have members := (h overrunStation overrunStation.clock overrunStation_inv (by decide +kernel) (by decide +kernel) rfl
    overrunStation_soundStep).2 r hr
  rw [owner] at members
  exact Bool.false_ne_true (stranger.symm.trans members)

end Sys2Proof.Machine
end

section
/-! Key marks (R34, R122, R127). -/

namespace Sys2Proof.Machine

set_option Elab.async false

/-! ### A key mark -/

/-- R117, R125: counted quiet time between the count held and 40 is taken as it is. -/
theorem State.quietComesTo_quiet {s : State} {q : Nat} (held : s.line.quiet ≤ q) (bound : q ≤ 40) :
    (s.quietComesTo q).line.quiet = q := by
  simp only [State.quietComesTo, Config.roundGap]
  omega

/-- R122: a mark edge changes nothing that the choice of a frame rests on, so the station asks for the same frame. -/
theorem State.askIfSettled_resync (q : Nat) (s : State) :
    (s.resync.quietComesTo q).askIfSettled = ((s.quietComesTo q).askIfSettled).resync := by
  have chosen : (s.resync.quietComesTo q).chosen = (s.quietComesTo q).chosen := rfl
  unfold State.askIfSettled
  change (if Config.settleGap ≤ (s.quietComesTo q).line.quiet then _ else _) = _
  split
  · unfold State.ask
    rw [chosen]
    cases (s.quietComesTo q).chosen <;> rfl
  · rfl

/-- R127: with quiet time below 12 no frame is asked for. -/
theorem State.askIfSettled_of_lt {s : State} (short : s.line.quiet < 12) : s.askIfSettled = s :=
  if_neg (Nat.not_le.mpr short)

/-- R35: the states in which a judgement is opened. -/
theorem StationState.opensJudgement_iff (x : StationState) :
    x.opensJudgement = true ↔ x = .joining ∨ x = .syncing ∨ x = .synced ∨ x = .halted := by
  cases x <;> simp [StationState.opensJudgement]

theorem State.askIfSettled_station (s : State) : s.askIfSettled.station = s.station := by
  unfold State.askIfSettled
  split
  · obtain ⟨-, h⟩ | ⟨_, -, h⟩ := s.ask_cases <;> rw [h]
  · rfl

/-- Settles O33: the state that a start moment leaves is the one that the key mark resynchronises and opens the frame in. -/
theorem keyMarkOpensTheFrame : Obligations.KeyMarkOpensTheFrame := by
  unfold Obligations.KeyMarkOpensTheFrame
  intro q s
  dsimp only
  refine ⟨fun busy open_ => ?_, fun ending => ?_, fun quiet held bound => ?_⟩
  · obtain ⟨-, same⟩ | ⟨ending, -⟩ := s.afterLastPhase_cases
    · change Host.Outcome.next (s.afterLastPhase.keyMark q) = _
      rw [same, State.keyMark, if_neg busy]
    · exact absurd ending open_
  · obtain ⟨other, -⟩ | ⟨-, closed⟩ := s.afterLastPhase_cases
    · exact absurd ending other
    · change Host.Outcome.next (s.afterLastPhase.keyMark q) = _
      rw [closed]
      rfl
  · have same : s.afterLastPhase = s := if_neg (by rw [quiet]; simp)
    refine ⟨(s.quietComesTo q).askIfSettled, ?_, fun short => ?_, ?_⟩
    · change Host.Outcome.next (s.afterLastPhase.frameStart q) = _
      rw [same, State.frameStart, if_pos quiet]
    · rw [State.askIfSettled_of_lt (by rwa [State.quietComesTo_quiet held bound])]
      exact ⟨rfl, rfl⟩
    · change Host.Outcome.next (s.afterLastPhase.keyMark q) = _
      rw [same, State.keyMark, if_pos quiet, State.askIfSettled_resync]
      have station : (s.quietComesTo q).askIfSettled.station = s.station := State.askIfSettled_station _
      simp only [State.openFrame, State.resync, StationState.opensJudgement_iff, station]
      rfl

end Sys2Proof.Machine
end

section
/-! Frames broken off (R36, R48, R114 to R116, R125). -/

namespace Sys2Proof.Machine

set_option Elab.async false

/-! ### The own attempt that exhausts its entry (R113, R114) -/

/-- R103: only one entry is on the line. -/
theorem State.OutboundFits.eq_of_onLine {s : State} (h : s.OutboundFits) {e x : Entry} (sent : s.outbound.onLine = some e)
    (hx : x ∈ s.outbound.entries) (on : x.onLine = true) : x = e := by
  obtain ⟨-, one, -⟩ := h
  obtain ⟨he, e_on⟩ := s.outbound.onLine_some e sent
  have hx' : x ∈ s.outbound.entries.filter fun e => e.onLine := List.mem_filter.mpr ⟨hx, on⟩
  have he' : e ∈ s.outbound.entries.filter fun e => e.onLine := List.mem_filter.mpr ⟨he, e_on⟩
  match on_line : s.outbound.entries.filter fun e => e.onLine with
  | [] => simp [on_line] at hx'
  | [a] =>
    rw [on_line] at hx' he'
    exact (List.mem_singleton.mp hx').trans (List.mem_singleton.mp he').symm
  | _ :: _ :: _ => simp [on_line] at one

/-- R110, R113: an entry after the end of the attempt on the line. -/
def Entry.returned (counted : Bool) (x : Entry) : Entry :=
  if x.onLine then { x with onLine := false, retries := x.retries + counted.toNat } else x

@[simp] theorem Entry.returned_kind (counted : Bool) (x : Entry) : (x.returned counted).kind = x.kind := by
  unfold Entry.returned; split <;> rfl

/-- R110, R113: an attempt whose withdrawal does not wait returns its entry in its place. -/
theorem State.endAttempt_returned {s : State} {e : Entry} (sent : s.outbound.onLine = some e) (stays : e.withdrawn = false)
    (counted : Bool) :
    s.endAttempt counted = { s with outbound := { s.outbound with
      entries := s.outbound.entries.map (Entry.returned counted), sending := [] } } := by
  simp only [State.endAttempt, sent, stays]
  rfl

/-- R110, R113: the end of the attempt returns every entry but the one on the line as it was. -/
theorem State.OutboundFits.filter_returned {s : State} (h : s.OutboundFits) {e : Entry} (sent : s.outbound.onLine = some e)
    {p : EntryKind → Bool} (other : p e.kind = false) (counted : Bool) :
    ((s.outbound.entries.map (Entry.returned counted)).filter fun x => p x.kind) =
      s.outbound.entries.filter fun x => p x.kind := by
  rw [List.filter_map]
  simp only [Function.comp_def, Entry.returned_kind]
  refine (List.map_congr_left fun x hx => ?_).trans (List.map_id _)
  obtain ⟨held, meets⟩ := List.mem_filter.mp hx
  have off : x.onLine = false := by
    by_contra on
    rw [h.eq_of_onLine sent held (by simpa using on), other] at meets
    contradiction
  simp [Entry.returned, off]

/-- R134: a drop-wanted slot is QUEUED. -/
theorem State.SlotsFit.queued_of_dropWanted {s : State} (h : s.SlotsFit) {k : Nat} (wanted : (s.slotAt k).dropWanted = true) :
    (s.slotAt k).state = .queued := by
  cases found : s.slots[k]? with
  | none => simp [State.slotAt, List.getD_eq_getElem?_getD, found, Slot.fresh] at wanted
  | some b =>
    rw [State.slotAt_of_getElem? found] at wanted ⊢
    obtain ⟨-, -, -, queued⟩ := h.2.1 b (List.mem_of_getElem? found)
    exact queued wanted

/-- R110, R141: an attempt whose withdrawal waits goes, and the slot of a drop-wanted CLAIM becomes FREE. -/
theorem State.endAttempt_withdrawn {s : State} (fits : s.SlotsFit) {e : Entry} {k : Nat} (sent : s.outbound.onLine = some e)
    (waits : e.withdrawn = true) (claim : e.kind = .claim k) (dropWanted : (s.slotAt k).dropWanted = true) (counted : Bool) :
    s.endAttempt counted = { s with
      outbound := { s.outbound with entries := s.outbound.entries.filter (fun x => !x.onLine), sending := [] }
      slots := s.slots.set k
        { state := .free, mode := none, zones := [], reason := none, changed := true, dropWanted := false } } := by
  have busy : (s.slotAt k).state ≠ .free := by
    rw [fits.queued_of_dropWanted dropWanted]
    simp
  have set := State.updateSlot_slots_eq_set k (Slot.become .free none) s
  rw [Slot.become_free busy] at set
  simp only [State.endAttempt, sent, waits, claim, State.settleDropWanted, EntryKind.claimTag, if_true]
  rw [← set]
  exact if_pos dropWanted

/-- R114: a failure that brings the count of the entry on the line to T exhausts this entry, and no other. -/
theorem State.OutboundFits.endAttempt_exhausted {s : State} (h : s.OutboundFits) {e : Entry}
    (sent : s.outbound.onLine = some e) (stays : e.withdrawn = false) (limit : e.retries + 1 = s.retryLimit) :
    (s.endAttempt true).outbound.entries.find? (fun x => decide (s.retryLimit ≤ x.retries)) = some (e.returned true) := by
  obtain ⟨-, -, -, below, -⟩ := id h
  have only : ∀ x ∈ s.outbound.entries, decide (s.retryLimit ≤ (x.returned true).retries) = x.onLine := by
    intro x hx
    cases on : x.onLine
    · simp [Entry.returned, on, below x hx]
    · obtain rfl := h.eq_of_onLine sent hx on
      simp [Entry.returned, on, limit]
  rw [State.endAttempt_returned sent stays]
  change (s.outbound.entries.map (Entry.returned true)).find? (fun x => decide (s.retryLimit ≤ x.retries)) = _
  rw [List.find?_map, ← Option.map_some, ← sent]
  congr 1
  simp only [Outbound.onLine]
  exact List.find?_congr fun x hx => only x hx

/-- R112, R114: a failure that leaves the count of the entry on the line below T, or takes the entry, exhausts none. -/
theorem State.OutboundFits.endAttempt_retries {s : State} (h : s.OutboundFits) {counted : Bool}
    (short : ∀ e, s.outbound.onLine = some e → e.withdrawn = true ∨ e.retries + counted.toNat < s.retryLimit) :
    ∀ x ∈ (s.endAttempt counted).outbound.entries, x.retries < s.retryLimit := by
  intro x hx
  obtain ⟨-, -, -, below, -⟩ := id h
  obtain ⟨-, same⟩ | ⟨e, sent, -, same⟩ | ⟨e, sent, stays, -⟩ := s.endAttempt_cases counted
  · exact below x (same ▸ hx)
  · rw [same, State.settleDropWanted_outbound] at hx
    exact below x (List.mem_filter.mp hx).1
  · rw [State.endAttempt_returned sent stays] at hx
    obtain ⟨y, hy, rfl⟩ := List.mem_map.mp hx
    cases on : y.onLine
    · simpa [Entry.returned, on] using below y hy
    · obtain rfl := h.eq_of_onLine sent hy on
      simpa [Entry.returned, on, stays] using short y sent

/-- R114 to R116: what the exhaustion of an entry comes to. -/
theorem State.actOnExhaustion_of_exhausted {s : State} {e : Entry} (h : s.exhausted = some e) :
    s.actOnExhaustion = if e.kind.isJoin then s.halt .joinFailed else s.selfRestart .retries := by
  simp only [State.actOnExhaustion, h]

/-! ### The self-restart and the failed JOIN (R115, R174) -/

/-- R145: the settlement at a self-restart, in the words of the obligations. -/
theorem Slot.settle_out (b : Slot) :
    b.settle .out = match b.state with
      | .waiting => { b with state := .lost, reason := some .out, changed := true, dropWanted := false }
      | .granted => { b with state := .lost, reason := some .out, changed := true, dropWanted := false }
      | .releasing => { state := .free, mode := none, zones := [], reason := none, changed := true, dropWanted := false }
      | _ => { b with dropWanted := false } := by
  cases x : b.state <;> simp [Slot.settle, Slot.become, x]

/-- R145: the settlement leaves the QUEUED slots QUEUED, and makes none so. -/
theorem Slot.settle_queued (r : Reason) (b : Slot) : ((b.settle r).state == .queued) = (b.state == .queued) := by
  cases x : b.state <;> simp [Slot.settle, x]

theorem State.slotAt_settleSlots (r : Reason) (s : State) (k : Nat) :
    (s.settleSlots r).slotAt k = (s.slotAt k).settle r := by
  simp only [State.slotAt, State.settleSlots, List.getD_eq_getElem?_getD, List.getElem?_map]
  cases s.slots[k]? <;> rfl

/-- R119: the entries kept through a clearing depend on the kinds of the entries alone. -/
theorem map_fresh_filter_kind (p : EntryKind → Bool) (l : List Entry) :
    ((l.filter fun e => p e.kind).map fun e => Entry.fresh e.kind) = ((l.map Entry.kind).filter p).map Entry.fresh := by
  simp [List.filter_map, Function.comp_def]

/-- R119: the kinds of entry that a clearing keeps: the CLAIM entries of QUEUED slots. -/
def State.keepsKind (s : State) (k : EntryKind) : Bool :=
  match k with
  | .claim tag => (s.slotAt tag).state == .queued
  | _ => false

/-- R119, R145: what a clearing keeps of the outbound set. -/
theorem State.giveUp_entries (r : Reason) (s : State) :
    (s.giveUp r).outbound =
      { entries := ((s.outbound.entries.map Entry.kind).filter s.keepsKind).map Entry.fresh, spent := false, sending := [] } := by
  rw [← map_fresh_filter_kind]
  unfold State.giveUp State.keepClaims
  dsimp only
  congr 2
  refine List.filter_congr fun e _ => ?_
  cases e.kind with
  | claim tag =>
    change ((((s.clearCell.stopTimers).settleSlots r).slotAt tag).state == SlotState.queued) = _
    rw [State.slotAt_settleSlots, Slot.settle_queued]
    rfl
  | _ => rfl

/-- R174: a self-restart, from a station `u` that differs from `s` only in the line's tracking and in what the entries hold
beside their kinds. -/
theorem State.selfRestarts_of {s u : State} (cause : OutCause)
    (kinds : u.outbound.entries.map Entry.kind = s.outbound.entries.map Entry.kind) (slots : u.slots = s.slots)
    (lease : u.lease = s.lease) (config : u.config = s.config) (attention : u.attention = s.attention)
    (line : { u.line with tracking := .recovering, recoverRun := 0, ltx := .rest, rx := none } =
      { s.line with tracking := .recovering, recoverRun := 0, ltx := .rest, rx := none }) :
    s.SelfRestarts cause.code (u.selfRestart cause) := by
  have kept : (u.giveUp .out).outbound = (s.giveUp .out).outbound := by
    have same : u.keepsKind = s.keepsKind := by
      funext k
      simp only [State.keepsKind, State.slotAt, slots]
    rw [State.giveUp_entries, State.giveUp_entries, kinds, same]
  refine ⟨rfl, rfl, rfl, rfl, ?_, ?_, ?_, line, rfl, config, rfl, ?_, ?_, ?_⟩
  · exact congrArg (fun l : LeaseUnit => { l with leases := [], pulse := .inactive, selfGuard := .inactive, window := .inactive })
      lease
  · change u.slots.map (Slot.settle .out) = _
    rw [slots]
    exact List.map_congr_left fun b _ => b.settle_out
  · change (u.giveUp .out).outbound = _
    rw [kept, State.giveUp_entries, ← map_fresh_filter_kind]
    rfl
  all_goals simp [attention]

/-- R115, R177: the halt on an exhausted JOIN, from a station `u` that differs from `s` only in the line and in its JOIN
entries. -/
theorem State.joinFails_of {s u : State} (others : (u.outbound.entries.filter fun x => !x.kind.isJoin) =
      s.outbound.entries.filter fun x => !x.kind.isJoin)
    (rest : u = { s with
      line := u.line
      judgement := u.judgement
      outbound := { s.outbound with entries := u.outbound.entries, sending := u.outbound.sending } }) :
    s.JoinFails (u.halt .joinFailed) ∧ (u.halt .joinFailed).roster = s.roster := by
  have spent : u.outbound.spent = s.outbound.spent := by rw [rest]
  have no_clash : (HaltCause.joinFailed == HaltCause.clash) = false := rfl
  refine ⟨⟨rfl, rfl, ?_, ?_, ?_, ?_, ?_, ?_, rfl, rfl, rfl, ?_, others, spent, rfl, ?_⟩, ?_⟩
  all_goals rw [rest]
  all_goals simp [State.halt, no_clash]

/-! ### The break-off bit by bit (R36, R125) -/

section
variable {x : Rx} {s : State} (following : s.line.rx = some x) (inside : x.position < x.cellBits)
include following inside

/-- R123: a bit before the end of the cells is a bit of a cell. -/
theorem State.frameBit_cell (b : Level) : s.frameBit b = s.cellBit b x := by
  simp only [State.frameBit, following, if_pos inside]

/-- R36, R125: a mark read REST breaks the frame off. -/
theorem State.frameBit_mark_rest (mark : x.position % 10 = 0) :
    s.frameBit .rest = s.brokenOff (if x.position / 10 = 0 then .keyMarkRest else .markRest) := by
  rw [State.frameBit_cell following inside, State.cellBit]
  simp only [mark, if_true]

/-- R36, R128, R129: the end bit of the key or length cell read DRIVE breaks the frame off. -/
theorem State.frameBit_end_drive (end_bit : x.position % 10 = 9) (early : x.position / 10 < 2) :
    s.frameBit .drive = s.brokenOff (if x.position / 10 = 0 then .keyEndDrive else .lengthEndDrive) := by
  rw [State.frameBit_cell following inside, State.cellBit]
  have cell : x.position / 10 = 0 ∨ x.position / 10 = 1 := by omega
  rcases cell with h | h <;> simp [end_bit, h]

/-- R36: a length cell above 40 breaks the frame off. -/
theorem State.frameBit_length_above (length_end : x.position = 19) (above : 40 < (octetOfBits x.cell).toNat) :
    s.frameBit .rest = s.brokenOff .lengthAbove40 := by
  rw [State.frameBit_cell following inside, State.cellBit]
  simp [length_end, Config.maxBody, above]

end

/-! ### The break-off (R36, R48) -/

/-- R48: the causes that count are the end bits read DRIVE. -/
theorem BreakCause.counted_iff (c : BreakCause) : c.counted = true ↔ c = .keyEndDrive ∨ c = .lengthEndDrive := by
  cases c <;> simp [BreakCause.counted]

/-- R126: the bit that breaks the frame off is the first of the 80 where it was read REST. -/
theorem BreakCause.restBits_eq (c : BreakCause) : c.restBits = if c.counted then 0 else 1 := by
  cases c <;> rfl

/-- R36, R48: the state in which an exhaustion is acted on at a break-off. -/
def State.afterBreak (cause : BreakCause) (s : State) : State :=
  ((s.endAttempt cause.counted).recover).countFrom cause.restBits

theorem State.brokenOff_eq {s : State} (frame : s.line.tracking = .frame) (cause : BreakCause) :
    s.brokenOff cause = (s.afterBreak cause).actOnExhaustion :=
  if_pos frame

theorem State.afterBreak_frame (cause : BreakCause) (s : State) :
    s.afterBreak cause = { s with
      line := { s.line with tracking := .recovering, ltx := .rest, rx := none, recoverRun := cause.restBits }
      judgement := none
      outbound := (s.endAttempt cause.counted).outbound
      slots := (s.endAttempt cause.counted).slots } := by
  unfold State.afterBreak
  rw [State.endAttempt_frame]
  rfl

/-- R48, R114: a break-off that brings no retry count to T. -/
theorem State.brokenOff_of_short {s : State} (fits : s.OutboundFits) (frame : s.line.tracking = .frame) {cause : BreakCause}
    (short : ∀ e, s.outbound.onLine = some e → e.withdrawn = true ∨ e.retries + cause.counted.toNat < s.retryLimit) :
    s.brokenOff cause = s.afterBreak cause := by
  rw [State.brokenOff_eq frame, State.actOnExhaustion_of_lt]
  rw [State.afterBreak_frame]
  exact fits.endAttempt_retries short

/-- R115, R116: a break-off that brings the retry count of the entry on the line to T. -/
theorem State.brokenOff_of_exhausts {s : State} (fits : s.OutboundFits) (frame : s.line.tracking = .frame) {cause : BreakCause}
    (counts : cause.counted = true) {e : Entry} (sent : s.outbound.onLine = some e) (stays : e.withdrawn = false)
    (limit : e.retries + 1 = s.retryLimit) :
    s.brokenOff cause =
      if e.kind.isJoin then (s.afterBreak cause).halt .joinFailed else (s.afterBreak cause).selfRestart .retries := by
  have exhausted : (s.afterBreak cause).exhausted = some (e.returned true) := by
    rw [State.afterBreak_frame, counts]
    exact fits.endAttempt_exhausted sent stays limit
  rw [State.brokenOff_eq frame, State.actOnExhaustion_of_exhausted exhausted, Entry.returned_kind]

theorem BreakCause.counted_toNat (cause : BreakCause) :
    cause.counted.toNat = if cause = .keyEndDrive ∨ cause = .lengthEndDrive then 1 else 0 := by
  cases cause <;> rfl

/-- R48, R112: the entry on the line as a break-off gives it back. -/
theorem Entry.returned_of_cause (cause : BreakCause) :
    Entry.returned cause.counted = fun x : Entry => if x.onLine = true then
      { x with
        onLine := false
        retries := if cause = .keyEndDrive ∨ cause = .lengthEndDrive then x.retries + 1 else x.retries }
      else x := by
  funext x
  simp only [Entry.returned, BreakCause.counted_toNat]
  split_ifs <;> rfl

/-- Settles O36: the bits by the branches of `cellBit`, the break-off by what becomes of the attempt on the line. -/
theorem brokenOffFrameRecovers : Obligations.BrokenOffFrameRecovers := by
  unfold Obligations.BrokenOffFrameRecovers
  refine ⟨fun x s frame following inside => ⟨fun start => ?_, fun later mark => ?_, fun key => ?_, fun length => ?_,
    fun length above => ?_⟩, fun cause s inv => ?_⟩
  · rw [State.frameBit_mark_rest following inside (by omega), start]
    rfl
  · rw [State.frameBit_mark_rest following inside mark, if_neg (by omega)]
    rfl
  · rw [State.frameBit_end_drive following inside (by omega) (by omega), if_pos (by omega)]
    rfl
  · rw [State.frameBit_end_drive following inside (by omega) (by omega), if_neg (by omega)]
    rfl
  · rw [State.frameBit_length_above following inside length above]
    rfl
  obtain ⟨-, -, -, slotsFit, fits, -⟩ := inv
  have run : exec (.frameBrokenOff cause) s = .next (s.brokenOff cause) := rfl
  have bits : cause.restBits = if cause = .keyEndDrive ∨ cause = .lengthEndDrive then 0 else 1 := by
    simp only [BreakCause.restBits_eq, BreakCause.counted_iff]
  dsimp only
  rw [run, ← bits]
  refine ⟨fun away => ?_, fun frame idle => ?_, fun e k frame sent waits claim dropWanted => ?_,
    fun e frame sent stays short => ?_, fun e frame sent stays drove limit => ?_⟩
  · rw [State.brokenOff, if_neg away]
  · rw [State.brokenOff_of_short fits frame (by simp [idle]), State.afterBreak_frame]
    have ended : s.endAttempt cause.counted = s := by simp only [State.endAttempt, idle]
    rw [ended]
  · rw [State.brokenOff_of_short fits frame (by simp [sent, waits]), State.afterBreak_frame]
    have ended := State.endAttempt_withdrawn slotsFit sent waits claim dropWanted cause.counted
    rw [ended]
  · obtain ⟨-, -, -, retries, -⟩ := id fits
    rw [State.brokenOff_of_short fits frame, State.afterBreak_frame, State.endAttempt_returned sent stays,
      Entry.returned_of_cause]
    intro x on
    obtain rfl := Option.some.inj (sent.symm.trans on)
    rw [BreakCause.counted_toNat]
    split
    · exact .inr (short ‹_›)
    · exact .inr (retries e (s.outbound.onLine_some e sent).1)
  · rw [State.brokenOff_of_exhausts fits frame ((BreakCause.counted_iff cause).mpr drove) sent stays limit]
    have kinds : (s.endAttempt cause.counted).outbound.entries.map Entry.kind = s.outbound.entries.map Entry.kind := by
      rw [State.endAttempt_returned sent stays]
      simp [Function.comp_def]
    have slots : (s.endAttempt cause.counted).slots = s.slots := by rw [State.endAttempt_returned sent stays]
    have broken := State.afterBreak_frame cause s
    rw [slots] at broken
    refine ⟨_, rfl, ?_, fun other => ?_, fun join => ?_⟩
    · rw [broken]
      split <;> rfl
    · rw [other, if_neg Bool.false_ne_true]
      refine ⟨State.selfRestarts_of .retries ?_ ?_ ?_ ?_ ?_ ?_, ?_⟩
      · rw [broken]; exact kinds
      all_goals rw [broken]
      rfl
    · rw [join, if_pos rfl]
      obtain ⟨fails, roster⟩ := State.joinFails_of (s := s) (u := s.afterBreak cause) (by
        rw [State.afterBreak_frame, State.endAttempt_returned sent stays]
        exact fits.filter_returned sent (p := fun k => !k.isJoin) (by simp [join]) _) (by
        rw [State.afterBreak_frame, State.endAttempt_returned sent stays])
      refine ⟨fails, roster, ?_, ?_, ?_⟩ <;> rw [broken] <;> rfl

end Sys2Proof.Machine
end

section
/-! The line unit and the judgement at a frame end (R34, R47, R124, R126, R133). -/

namespace Sys2Proof.Machine

set_option Elab.async false

/-! ### The content of a frame, the evictions and the lease unit -/

/-- The line unit and the judgement stand. -/
abbrev State.SameLine (s t : State) : Prop :=
  t.line = s.line ∧ t.judgement = s.judgement

theorem State.evict_sameLine (gone : StationSet) (s : State) : s.SameLine (s.evict gone) := by
  rw [State.evict_frame]
  exact ⟨rfl, rfl⟩

theorem State.endAttempt_sameLine (counted : Bool) (s : State) : s.SameLine (s.endAttempt counted) := by
  rw [State.endAttempt_frame]
  exact ⟨rfl, rfl⟩

/-- R100: only the own LEAVE touches the line unit, which releases LTX then. -/
theorem State.applyContent_line (s : State) (sender : Nat) (f : Frame) (standing : StationSet) :
    s.SameLine (s.applyContent sender f standing) ∨
      (s.applyContent sender f standing).station = .parked ∧
        (s.applyContent sender f standing).line = { s.line with ltx := .rest } ∧
        (s.applyContent sender f standing).judgement = s.judgement := by
  rcases s.applyContent_cases sender f standing with ⟨_, -, x⟩ | ⟨_, -, x⟩ | ⟨_, _, _, -, -, x⟩ | ⟨_, -, -, x⟩ |
    ⟨_, -, -, x⟩ | ⟨-, -, x⟩ | ⟨-, -, x⟩ | x <;> rw [x]
  · rw [State.joinTaken_frame]; exact .inl ⟨rfl, rfl⟩
  · rw [State.censusTaken_frame]; exact .inl ⟨rfl, rfl⟩
  · rw [State.claimTaken_frame]; exact .inl ⟨rfl, rfl⟩
  · rw [State.dropTaken_frame]; exact .inl ⟨rfl, rfl⟩
  · rw [State.expireTaken_frame]; exact .inl ⟨rfl, rfl⟩
  · exact .inr ⟨rfl, rfl, rfl⟩
  · rw [State.leaveTaken_frame]; exact .inl ⟨rfl, rfl⟩
  · exact .inl ⟨rfl, rfl⟩

theorem State.applyTaken_line (own : Bool) (c : FrameCells) (standing : StationSet) (s : State) :
    s.SameLine (s.applyTaken own c standing) ∨
      (s.applyTaken own c standing).station = .parked ∧
        (s.applyTaken own c standing).line = { s.line with ltx := .rest } ∧
        (s.applyTaken own c standing).judgement = s.judgement := by
  obtain ⟨u, cases_u, e⟩ := s.applyTaken_cases own c standing
  have content : s.SameLine u ∨
      u.station = .parked ∧ u.line = { s.line with ltx := .rest } ∧ u.judgement = s.judgement := by
    obtain ⟨-, rfl⟩ | ⟨f, -, rfl⟩ := cases_u
    · rw [State.entryTaken_frame]; exact .inl ⟨rfl, rfl⟩
    · have applied := (s.entryTaken own).applyContent_line c.sender f standing
      have line : (s.entryTaken own).line = s.line := by rw [State.entryTaken_frame]
      have judgement : (s.entryTaken own).judgement = s.judgement := by rw [State.entryTaken_frame]
      rwa [State.SameLine, line, judgement] at applied
  rw [e]
  split
  · rw [State.settleTaken_frame]; exact content
  · exact content

theorem State.leasedAtEnd_sameLine (s before : State) (own : Bool) (obs : FrameObs) :
    s.SameLine (s.leasedAtEnd before own obs) := by
  unfold State.leasedAtEnd
  dsimp only
  rw [State.leaseWork_frame]
  have evicted : s.SameLine (if s.toEvict.isEmpty then s else s.evict s.toEvict) := by
    split
    · exact ⟨rfl, rfl⟩
    · exact s.evict_sameLine _
  split
  · obtain ⟨line, judgement⟩ := State.endAttempt_sameLine true (if s.toEvict.isEmpty then s else s.evict s.toEvict)
    exact ⟨line.trans evicted.1, judgement.trans evicted.2⟩
  · exact evicted

/-! ### The frame closed (R47) -/

/-- R47, R124: the line unit in the last frame phase, its level held. -/
def LineUnit.closed (l : LineUnit) : LineUnit :=
  { l with tracking := .ending, rx := none }

/-- R100, R133, R177: the frame closed, with LTX released at a station that the frame end halted or parked. -/
abbrev State.ClosesFrame (l : LineUnit) (t : State) : Prop :=
  t.judgement = none ∧
    (t.line = l.closed ∨ ((t.station = .halted ∨ t.station = .parked) ∧ t.line = { l.closed with ltx := .rest }))

/-- R126, R174: the frame closed by a self-restart. -/
abbrev State.RestartsLine (l : LineUnit) (t : State) : Prop :=
  t.judgement = none ∧ t.station = .listen ∧
    t.line = { l.closed with tracking := .recovering, recoverRun := 0, ltx := .rest }

theorem State.closesFrame_of_line {l : LineUnit} {s t : State} (closed : s.line = l.closed ∧ s.judgement = none)
    (same : s.SameLine t) : t.ClosesFrame l :=
  ⟨same.2.trans closed.2, .inl (same.1.trans closed.1)⟩

theorem State.restartsLine_selfRestart {l : LineUnit} {s : State} (closed : s.line = l.closed) (cause : OutCause) :
    (s.selfRestart cause).RestartsLine l := by
  refine ⟨rfl, rfl, ?_⟩
  rw [State.selfRestart_line, State.recover_line, closed]
  rfl

theorem State.closesFrame_halt {l : LineUnit} {s : State} (closed : s.line = l.closed ∧ s.judgement = none)
    (cause : HaltCause) : (s.halt cause).ClosesFrame l := by
  refine ⟨closed.2, .inr ⟨.inl rfl, ?_⟩⟩
  rw [State.halt_line, closed.1]

theorem State.actOnExhaustion_line {l : LineUnit} {s : State} (closed : s.line = l.closed ∧ s.judgement = none) :
    s.actOnExhaustion.ClosesFrame l ∨ s.actOnExhaustion.RestartsLine l := by
  obtain ⟨-, x⟩ | ⟨_, -, -, -, x⟩ | ⟨_, -, -, -, x⟩ := s.actOnExhaustion_cases <;> rw [x]
  · exact .inl (State.closesFrame_of_line closed ⟨rfl, rfl⟩)
  · exact .inl (State.closesFrame_halt closed _)
  · exact .inr (State.restartsLine_selfRestart closed.1 _)

theorem State.finishMember_line {l : LineUnit} {s before : State} {own : Bool} {obs : FrameObs}
    (closed : s.line = l.closed ∧ s.judgement = none) :
    (s.finishMember before own obs).ClosesFrame l ∨ (s.finishMember before own obs).RestartsLine l := by
  obtain ⟨line, judgement⟩ := s.leasedAtEnd_sameLine before own obs
  rw [State.finishMember_eq]
  split
  · exact .inr (State.restartsLine_selfRestart (line.trans closed.1) _)
  · refine State.actOnExhaustion_line ?_
    rw [State.raiseRosterFor_frame]
    exact ⟨line.trans closed.1, judgement.trans closed.2⟩

theorem State.memberFrameEnd_line {l : LineUnit} {s : State} {own : Bool} {obs : FrameObs}
    (closed : s.line = l.closed ∧ s.judgement = none) :
    (s.memberFrameEnd own obs).ClosesFrame l ∨ (s.memberFrameEnd own obs).RestartsLine l := by
  set counted := s.countMisses obs.rollCall with counted_eq
  have stands : counted.line = l.closed ∧ counted.judgement = none := closed
  have finished : ∀ v : State, (v.line = l.closed ∧ v.judgement = none) ∨ (v.station = .parked ∧ v.ClosesFrame l) →
      (if v.station = .parked then v else v.finishMember s own obs).ClosesFrame l ∨
        (if v.station = .parked then v else v.finishMember s own obs).RestartsLine l := by
    rintro v (open_ | ⟨parked, closes⟩)
    · split
      · exact .inl (State.closesFrame_of_line open_ ⟨rfl, rfl⟩)
      · exact State.finishMember_line open_
    · rw [if_pos parked]; exact .inl closes
  unfold State.memberFrameEnd
  dsimp only
  rw [State.raiseForeignFor_frame]
  refine finished _ ?_
  split
  · obtain ⟨line, judgement⟩ | ⟨parked, line, judgement⟩ := State.applyTaken_line own obs.cells obs.standing counted
    · exact .inl ⟨line.trans stands.1, judgement.trans stands.2⟩
    · exact .inr ⟨parked, judgement.trans stands.2, .inr ⟨.inr parked, by rw [line, stands.1]⟩⟩
  · exact .inl stands

/-! ### A JOINING station (R115) -/

/-- R103: after the end of an attempt none is on the line. -/
theorem State.endAttempt_onLine (counted : Bool) (s : State) : (s.endAttempt counted).outbound.onLine = none := by
  obtain ⟨none_on, x⟩ | ⟨e, -, -, x⟩ | ⟨e, sent, stays, -⟩ := s.endAttempt_cases counted
  · rw [x]; exact none_on
  · rw [x, State.settleDropWanted_outbound, Outbound.onLine, List.find?_eq_none]
    intro y hy
    simpa using (List.mem_filter.mp hy).2
  · rw [State.endAttempt_returned sent stays, Outbound.onLine, List.find?_eq_none]
    intro y hy
    obtain ⟨z, -, rfl⟩ := List.mem_map.mp hy
    cases on : z.onLine <;> simp [Entry.returned, on]

/-- R105, R115: at a JOINING station the entry whose attempt fails is a JOIN, so that its exhaustion halts the station. -/
theorem State.joiningFrameEnd_line {s : State} (fits : s.OutboundFits) (places : s.EntriesWhere)
    (joining : s.station = .joining) {own : Bool} (mine : own = true → s.outbound.onLine.isSome = true) (obs : FrameObs) :
    (s.closeFrame.joiningFrameEnd own obs).ClosesFrame s.line := by
  have closed : s.closeFrame.line = s.line.closed ∧ s.closeFrame.judgement = none := ⟨rfl, rfl⟩
  unfold State.joiningFrameEnd
  split
  · rename_i is_own
    split
    · refine State.closesFrame_of_line closed ?_
      rw [State.takeEntry_frame]
      unfold State.ownJoinTaken
      dsimp only
      split
      · exact ⟨rfl, rfl⟩
      · rw [State.resetRun_frame]; exact ⟨rfl, rfl⟩
    · obtain ⟨e, sent⟩ := Option.isSome_iff_exists.mp (mine is_own)
      have ended : (s.closeFrame.endAttempt true).line = s.line.closed ∧ (s.closeFrame.endAttempt true).judgement = none :=
        State.endAttempt_sameLine true s.closeFrame
      obtain ⟨-, -, -, retries, -⟩ := id fits
      have below := retries e (s.outbound.onLine_some e sent).1
      by_cases short : e.withdrawn = true ∨ e.retries + 1 < s.retryLimit
      · rw [State.actOnExhaustion_of_lt]
        · exact State.closesFrame_of_line ended ⟨rfl, rfl⟩
        · have limit : (s.closeFrame.endAttempt true).retryLimit = s.retryLimit := by rw [State.endAttempt_frame]; rfl
          rw [limit]
          refine State.OutboundFits.endAttempt_retries (s := s.closeFrame) fits fun x on => ?_
          obtain rfl := Option.some.inj (sent.symm.trans on)
          exact short
      · have stays : e.withdrawn = false := by simpa using fun w => short (.inl w)
        have exhausted : (s.closeFrame.endAttempt true).exhausted = some (e.returned true) := by
          have found := State.OutboundFits.endAttempt_exhausted (s := s.closeFrame) fits sent stays
            (show e.retries + 1 = s.retryLimit by omega)
          rw [State.exhausted, State.retryLimit, State.endAttempt_frame]
          exact found
        have join : e.kind.isJoin = true := by
          obtain ⟨held, on⟩ := s.outbound.onLine_some e sent
          have allowed := (places e held).2 on
          rw [joining] at allowed
          cases x : e.kind <;> simp [x, EntryKind.sentIn, StationState.tracksCensus, EntryKind.isJoin] at allowed ⊢
        rw [State.actOnExhaustion_of_exhausted exhausted, Entry.returned_kind, join, if_pos rfl]
        exact State.closesFrame_halt ended _
  · exact State.closesFrame_of_line closed ⟨rfl, rfl⟩

/-! ### The frame end -/

/-- R60, R128: nothing precedes the outcome of a frame that is no clash at a station without an attempt on the line. -/
theorem State.settled_of_idle {s : State} {c : FrameCells} (idle : s.outbound.onLine = none) (calm : s.clashes c = false) :
    (s.clashFound c).loseUnlessOwn c = s := by
  have found : s.clashFound c = s := by simp [State.clashFound, calm]
  have attempt : s.ownAttempt c = false := by simp [State.ownAttempt, idle]
  rw [found, State.loseUnlessOwn, attempt, if_neg Bool.false_ne_true]
  simp only [State.endAttempt, idle]

/-- R60: a frame that the station hears as another's is no clash. -/
theorem State.HearsOther.clashes {s : State} {obs : FrameObs} (h : s.HearsOther obs) : s.clashes obs.cells = false := by
  obtain ⟨-, ⟨sender, -, kept⟩ | error⟩ := h
  · simp [State.clashes, sender, kept]
  · simp [State.clashes, error]

/-- R109: a station whose own attempt a frame is has an entry on the line. -/
theorem State.onLine_of_ownAttempt {s : State} {c : FrameCells} (h : s.ownAttempt c = true) :
    s.outbound.onLine.isSome = true := by
  obtain ⟨e, sent, -⟩ := (State.ownAttempt_eq_true c s).mp h
  simp [sent]

/-- R47: the line unit, the judgement and the station state where the outcome of a frame is handed on. -/
theorem State.settledFrame_line (c : FrameCells) (s : State) :
    (s.settledFrame c).line = (s.clashFound c).line.closed ∧ (s.settledFrame c).judgement = none ∧
      (s.settledFrame c).station = (s.clashFound c).station := by
  unfold State.settledFrame
  obtain ⟨-, x⟩ | ⟨-, x⟩ := (s.clashFound c).loseUnlessOwn_cases c <;> rw [x]
  · exact ⟨rfl, rfl, rfl⟩
  · rw [State.endAttempt_frame]; exact ⟨rfl, rfl, rfl⟩

/-- R47, R126, R177: what the end of a frame followed leaves of line unit and judgement. -/
theorem State.frameEnd_line {s : State} (inv : s.Inv) (frame : s.line.tracking = .frame) (obs : FrameObs) :
    (s.frameEnd obs).ClosesFrame s.line ∨
      (s.station.tracksCensus = true ∧ (s.frameEnd obs).RestartsLine s.line) := by
  obtain ⟨-, -, -, -, fits, -, -, -, places, -⟩ := inv
  rw [State.frameEnd_eq frame]
  obtain ⟨line, judgement, station⟩ := s.settledFrame_line obs.cells
  obtain ⟨-, found⟩ | ⟨-, found⟩ := s.clashFound_cases obs.cells
  · rw [found] at line station
    cases tracks : s.station.tracksCensus
    · by_cases joining : s.station = .joining
      · rw [State.handOn_joining _ _ (station.trans joining), State.settledFrame, found]
        obtain ⟨own, same⟩ | ⟨-, ended⟩ := s.loseUnlessOwn_cases obs.cells
        · rw [same]
          exact .inl (State.joiningFrameEnd_line fits places joining (fun _ => State.onLine_of_ownAttempt own) obs)
        · have lost : (s.loseUnlessOwn obs.cells).ownAttempt obs.cells = false := by
            rw [ended]
            simp [State.ownAttempt, State.endAttempt_onLine]
          rw [lost]
          refine .inl (State.closesFrame_of_line (s := s.settledFrame obs.cells) ⟨line, judgement⟩ ?_)
          rw [State.settledFrame, found]
          exact ⟨rfl, rfl⟩
      · rw [State.handOn_other _ _ (by rw [station, tracks]) (by rwa [station])]
        exact .inl (State.closesFrame_of_line ⟨line, judgement⟩ ⟨rfl, rfl⟩)
    · rw [State.handOn_member _ _ (by rw [station, tracks])]
      exact (State.memberFrameEnd_line ⟨line, judgement⟩).imp_right fun restarts => ⟨rfl, restarts⟩
  · rw [found] at line station
    have halted : (s.settledFrame obs.cells).station = .halted := station
    rw [State.handOn_other _ _ (by rw [halted]; rfl) (by simp [halted])]
    refine .inl ⟨judgement, .inr ⟨.inl halted, ?_⟩⟩
    rw [line, State.halt_line, State.endAttempt_frame]
    rfl

/-- Settles O42: the line unit by `frameEnd_line`; a station that drives nothing, and a JOINING one at another's frame, has
the frame closed alone. -/
theorem frameEndClosesTheFrame : Obligations.FrameEndClosesTheFrame := by
  unfold Obligations.FrameEndClosesTheFrame
  intro obs s
  dsimp only
  have run : exec (.frameEnd obs) s = .next (s.frameEnd obs) := rfl
  rw [run]
  refine ⟨fun away => ?_, fun inv frame => ⟨_, rfl, ?_⟩, fun frame idle where_ => ?_⟩
  · rw [State.frameEnd, if_neg away]
  · obtain ⟨judgement, closed | released⟩ | ⟨tracks, judgement, listen, line⟩ := State.frameEnd_line inv frame obs
    · exact ⟨judgement, .inl closed⟩
    · exact ⟨judgement, .inr (.inl released)⟩
    · have member : s.station = .syncing ∨ s.station = .synced := by
        revert tracks
        cases s.station <;> simp [StationState.tracksCensus]
      exact ⟨judgement, .inr (.inr ⟨listen, member, line⟩)⟩
  · have calm : s.clashes obs.cells = false := by
      rcases where_ with x | x | x | ⟨-, other⟩
      · simp [State.clashes, x, StationState.mayDrive]
      · simp [State.clashes, x, StationState.mayDrive]
      · simp [State.clashes, x, StationState.mayDrive]
      · exact other.clashes
    have attempt : s.ownAttempt obs.cells = false := by simp [State.ownAttempt, idle]
    have settled : s.settledFrame obs.cells = s.closeFrame := congrArg State.closeFrame (State.settled_of_idle idle calm)
    rw [State.frameEnd_eq frame, settled, State.settled_of_idle idle calm, attempt]
    have handed : s.closeFrame.handOn false obs = s.closeFrame := by
      by_cases joining : s.closeFrame.station = .joining
      · exact State.handOn_joining _ _ joining
      · refine State.handOn_other _ _ ?_ joining
        rcases where_ with x | x | x | ⟨x, -⟩ <;> rw [State.closeFrame_station, x] <;> rfl
    rw [handed]
    rfl

end Sys2Proof.Machine
end

section
/-! What a station drives of a frame's roll-call, verdict and standing call (R39 to R46). -/

namespace Sys2Proof.Machine

set_option Elab.async false

/-! ### The own key (R128) -/

/-- R128: a key is not lost where every bit sent as REST, a 1, was read as REST. -/
theorem losesKey_eq_false (sent read : Byte) :
    losesKey sent read = false ↔ ∀ i, i < 8 → sent.getLsbD i = true → read.getLsbD i = true := by
  simp only [losesKey, bne_eq_false_iff_eq]
  constructor
  · intro none_lost i small on
    have bit := congrArg (fun b : Byte => b.getLsbD i) none_lost
    simpa [small, on] using bit
  · intro kept
    refine BitVec.eq_of_getLsbD_eq fun i small => ?_
    cases on : sent.getLsbD i
    · simp [on]
    · simp [kept i small on]

/-- R109, R128: the frame on the line is the own attempt, its key not lost. -/
theorem State.ownAttempt_iff (s : State) (c : FrameCells) :
    s.ownAttempt c = true ↔ ∃ e, s.outbound.onLine = some e ∧
      ∀ i, i < 8 → (keyOctet e.kind.frameClass s.own).getLsbD i = true → c.key.getLsbD i = true := by
  simp only [State.ownAttempt_eq_true, losesKey_eq_false]

/-! ### The objections (R39 to R41) -/

/-- R39: a JOIN body that breaks no format rule has five octets. -/
theorem parseJoin_length {body : List Byte} {f : Frame} (h : parseJoin body = some f) : body.length = 5 := by
  unfold parseJoin at h
  split at h
  · rfl
  · contradiction

/-- R40: a JOIN received GOOD that breaks no format rule is foreign where its fingerprint or its sender number is. -/
theorem State.foreignJoin_iff {s : State} {c : FrameCells} {f : Frame} (member : s.judgesContent = true)
    (good : c.reception = .good) (parsed : s.parse c = some f) :
    s.foreignJoin c = true ↔
      c.frameClass = 2 ∧ (s.config.fingerprintDiffers c.body = true ∨ s.rosterSlots ≤ c.sender) := by
  have five : c.frameClass = 2 → c.body.length = 5 := fun join => by
    rw [State.parse, join] at parsed
    exact parseJoin_length parsed
  simp only [State.foreignJoin, member, good, Bool.and_eq_true, beq_iff_eq, Bool.or_eq_true, decide_eq_true_eq,
    beq_self_eq_true, true_and]
  exact ⟨fun h => ⟨h.1.1, h.2⟩, fun h => ⟨⟨h.1, five h.1⟩, h.2⟩⟩

/-- R41: the four kinds that the freeze forbids. -/
@[simp] abbrev ForbiddenByFreeze (frameClass : Nat) : Prop :=
  frameClass = 0 ∨ frameClass = 1 ∨ frameClass = 4 ∨ frameClass = 5

/-- R41: the fields in which a CENSUS part differs from the one due. -/
@[simp] abbrev State.NotDue (s : State) (sender : Nat) (p : Part) : Prop :=
  s.census.designated ≠ some sender ∨ p.index ≠ s.census.progress ∨
    (0 < p.index ∧ s.census.runCount ≠ some p.count) ∨ p.joiners ≠ s.census.joiners

/-- R41: a part from the designated sender draws an objection where a field differs. -/
theorem State.partObjection_isSome (s : State) (p : Part) :
    (s.partObjection p).isSome = true ↔ p.index ≠ s.census.progress ∨
      (0 < p.index ∧ s.census.runCount ≠ some p.count) ∨ p.joiners ≠ s.census.joiners := by
  unfold State.partObjection
  split_ifs <;> simp_all

/-- R41: the census objection, by class and content. -/
theorem State.censusObjection_isSome (s : State) (sender : Nat) (f : Frame) :
    (s.censusObjection sender f).isSome = true ↔
      (s.census.joiners ≠ [] ∧ ForbiddenByFreeze f.frameClass) ∨ ∃ p, f = .census p ∧ s.NotDue sender p := by
  have frozen : (if s.census.freeze then some Objection.frozenTable else none).isSome = true ↔ s.census.joiners ≠ [] := by
    rw [← Census.freeze_eq_true]
    cases s.census.freeze <;> simp
  cases f with
  | census p =>
    simp only [State.censusObjection, Frame.frameClass, Frame.census.injEq, exists_eq_left']
    by_cases sender_due : s.census.designated = some sender
    · simp [sender_due, State.partObjection_isSome]
    · simp [sender_due]
  | join _ => simp [State.censusObjection, Frame.frameClass]
  | pulse => simp [State.censusObjection, Frame.frameClass]
  | expire _ => simpa [State.censusObjection, Frame.frameClass] using frozen
  | leave => simpa [State.censusObjection, Frame.frameClass] using frozen
  | drop _ => simpa [State.censusObjection, Frame.frameClass] using frozen
  | claim _ _ _ => simpa [State.censusObjection, Frame.frameClass] using frozen

/-- R39 to R41: a member objects to a frame received GOOD for its format, a stranger, a foreign JOIN, or the census. -/
theorem State.objection_isSome {s : State} {c : FrameCells} (member : s.judgesContent = true) (good : c.reception = .good) :
    (s.objection c).isSome = true ↔
      s.parse c = none ∨ (s.isMember c.sender = false ∧ c.frameClass ≠ 2) ∨
      (c.frameClass = 2 ∧ (s.config.fingerprintDiffers c.body = true ∨ s.rosterSlots ≤ c.sender)) ∨
      (s.census.joiners ≠ [] ∧ ForbiddenByFreeze c.frameClass) ∨
      ∃ p, s.parse c = some (.census p) ∧ s.NotDue c.sender p := by
  have judged : ¬(s.judgesContent = false ∨ c.reception = .error) := by simp [member, good]
  unfold State.objection
  rw [if_neg judged]
  cases parsed : s.parse c with
  | none => simp
  | some f =>
    have census := s.censusObjection_isSome c.sender f
    rw [State.parse_frameClass parsed] at census
    have foreign := State.foreignJoin_iff member good parsed
    by_cases stranger : s.isMember c.sender = false ∧ c.frameClass ≠ 2
    · simp [stranger]
    · by_cases is_foreign : s.foreignJoin c = true
      · simp [foreign.mp is_foreign, is_foreign]
      · simp [stranger, is_foreign, ← foreign, census]

/-! ### Acks, voids and stands (R42, R44, R46) -/

theorem State.void_drive_iff {s : State} {c : FrameCells} (normal : s.line.condition = .normal)
    (member : s.judgesContent = true) (rollCall : StationSet) :
    s.void c rollCall = .drive ↔ c.reception = .error ∨ (∃ k ∈ s.roster.roster, k ∉ rollCall) ∨
      (c.reception = .good ∧ (s.objection c).isSome = true) := by
  have incomplete : s.incomplete rollCall = true ↔ ∃ k ∈ s.roster.roster, k ∉ rollCall := by
    simp [State.incomplete]
  unfold State.void
  simp only [normal, member, true_and, ← incomplete]
  cases c.reception
  · by_cases missing : s.incomplete rollCall = true <;> simp [missing, Option.isSome_iff_ne_none]
  · simp

/-- Settles O27: each of the three by its defining test, the objections by `objection_isSome`. -/
theorem memberAcksVoidsAndStands : Obligations.MemberAcksVoidsAndStands := by
  unfold Obligations.MemberAcksVoidsAndStands
  intro s c rollCall
  refine ⟨fun normal joining => ?_, fun silent => ?_, fun normal member => ?_⟩
  · have judges : s.judgesContent = false := by simp [State.judgesContent, joining, StationState.tracksCensus]
    rw [← State.ownAttempt_iff]
    simp [State.ack, State.void, State.stand, normal, joining, judges]
  · rcases silent with stuck | ⟨joining, syncing, synced⟩
    · simp [State.ack, State.void, State.stand, stuck]
    · have judges : s.judgesContent = false := by simp [State.judgesContent, StationState.tracksCensus, syncing, synced]
      simp [State.ack, State.void, State.stand, joining, synced, judges]
  · have judges : s.judgesContent = true := by
      rcases member with x | x <;> simp [State.judgesContent, StationState.tracksCensus, x]
    refine ⟨by simp [State.ack, normal, judges], ?_, by simp [State.stand, normal]⟩
    rw [State.void_drive_iff normal judges]
    refine or_congr_right (or_congr_right (and_congr_right fun good => ?_))
    exact State.objection_isSome judges good

end Sys2Proof.Machine
end

section
/-! The frame check (R32, R37). -/

namespace Sys2Proof.Machine

set_option Elab.async false

/-! ### The bits of octets -/

/-- R123: the data bits of an octet, from bit 7 down. -/
theorem octetBits_eq_map (b : Byte) : octetBits b = [7, 6, 5, 4, 3, 2, 1, 0].map fun i => b.getLsbD i := rfl

@[simp] theorem octetBits_length (b : Byte) : (octetBits b).length = 8 := rfl

theorem octetBits_injective {a b : Byte} (h : octetBits a = octetBits b) : a = b := by
  simp only [octetBits, List.cons.injEq] at h
  obtain ⟨h7, h6, h5, h4, h3, h2, h1, h0, -⟩ := h
  refine BitVec.eq_of_getLsbD_eq fun i small => ?_
  interval_cases i <;> assumption

/-- R32: the bits of a word, most significant first. -/
def wordBits (w : Word16) (n : Nat) : List Bool :=
  (List.range n).map fun i => w.getLsbD (15 - i)

@[simp] theorem wordBits_length (w : Word16) (n : Nat) : (wordBits w n).length = n := by
  simp [wordBits]

theorem wordBits_succ (w : Word16) (n : Nat) : wordBits w (n + 1) = wordBits w n ++ [w.getLsbD (15 - n)] := by
  simp [wordBits, List.range_succ]

/-- R32: the check goes out high octet first. -/
theorem octetBits_octetsOfWord (w : Word16) : ((octetsOfWord w).map octetBits).flatten = wordBits w 16 := by
  have high : ∀ i, i < 8 → (octet (w.toNat / 256)).getLsbD i = w.getLsbD (i + 8) := fun i small => by
    rw [octet, BitVec.getLsbD_ofNat, show w.toNat / 256 = w.toNat / 2 ^ 8 from rfl, Nat.testBit_div_two_pow,
      BitVec.testBit_toNat, decide_eq_true small, Bool.true_and]
  have low : ∀ i, i < 8 → (octet w.toNat).getLsbD i = w.getLsbD i := fun i small => by
    rw [octet, BitVec.getLsbD_ofNat, BitVec.testBit_toNat, decide_eq_true small, Bool.true_and]
  simp only [octetsOfWord, List.map_cons, List.map_nil, List.flatten_cons, List.flatten_nil, List.append_nil, octetBits]
  simp [high, low, wordBits, List.range_succ, -BitVec.getLsbD_eq_getElem]

/-! ### The check register (R32) -/

/-- R32: the bit shifted out agrees with the message bit, and the register shifts; otherwise the generator is added. -/
theorem crcBit_eq (r : Word16) (b : Bool) :
    crcBit r b = if r.getLsbD 15 = b then r <<< 1 else (r <<< 1) ^^^ 0xC867#16 := by
  rw [crcBit, BitVec.msb_eq_getLsbD_last]
  cases r.getLsbD 15 <;> cases b <;> rfl

/-- R32: the generator is odd, so the lowest bit tells whether it was added. -/
theorem crcBit_getLsbD_zero (r : Word16) (b : Bool) : (crcBit r b).getLsbD 0 = (r.getLsbD 15 != b) := by
  rw [crcBit_eq]
  split
  · rename_i same; simp [same, -BitVec.getLsbD_eq_getElem]
  · rename_i differ; simpa [-BitVec.getLsbD_eq_getElem] using differ

/-- R32: a register that takes its own bits shifts out to nothing. -/
theorem foldl_crcBit_wordBits (r : Word16) (n : Nat) (h : n ≤ 16) : (wordBits r n).foldl crcBit r = r <<< n := by
  induction n with
  | zero => simp [wordBits]
  | succ n ih =>
    have out : (r <<< n).getLsbD 15 = r.getLsbD (15 - n) := by
      simp [show ¬15 < n by omega, -BitVec.getLsbD_eq_getElem]
    rw [wordBits_succ, List.foldl_append, ih (by omega), List.foldl_cons, List.foldl_nil, crcBit_eq, if_pos out,
      ← BitVec.shiftLeft_add]

/-- R32: and only its own bits do that: bits that leave as many zeros behind are those of the register. -/
theorem eq_wordBits_of_foldl_crcBit (r : Word16) (bits : List Bool) (short : bits.length ≤ 16)
    (clear : ∀ i, i < bits.length → (bits.foldl crcBit r).getLsbD i = false) : bits = wordBits r bits.length := by
  induction bits using List.reverseRecOn with
  | nil => rfl
  | append_singleton bits b ih =>
    simp only [List.length_append, List.length_singleton] at short clear ⊢
    set q := bits.foldl crcBit r with hq
    have last : (bits ++ [b]).foldl crcBit r = crcBit q b := by rw [List.foldl_append, ← hq]; rfl
    rw [last] at clear
    have agrees : q.getLsbD 15 = b := by
      have := clear 0 (by omega)
      rw [crcBit_getLsbD_zero] at this
      simpa using this
    have before : ∀ i, i < bits.length → q.getLsbD i = false := fun i hi => by
      have := clear (i + 1) (by omega)
      rw [crcBit_eq, if_pos agrees] at this
      simpa [show i + 1 < 16 by omega, -BitVec.getLsbD_eq_getElem] using this
    have own := ih (by omega) before
    have shifted : q = r <<< bits.length := by
      rw [hq]
      conv_lhs => rw [own]
      exact foldl_crcBit_wordBits r _ (by omega)
    have next : r.getLsbD (15 - bits.length) = b := by
      rw [← agrees, shifted]
      simp [show ¬15 < bits.length by omega, -BitVec.getLsbD_eq_getElem]
    rw [wordBits_succ, ← own, next]

/-! ### The check over octets -/

theorem foldl_crcOctet (octets : List Byte) (r : Word16) :
    octets.foldl crcOctet r = ((octets.map octetBits).flatten).foldl crcBit r := by
  induction octets generalizing r with
  | nil => rfl
  | cons b octets ih => rw [List.foldl_cons, ih, List.map_cons, List.flatten_cons, List.foldl_append]; rfl

theorem crc_append (octets more : List Byte) : crc (octets ++ more) = more.foldl crcOctet (crc octets) :=
  List.foldl_append

/-- R32, R37: the check over octets and two more is 0 exactly where these are the check of the former. -/
theorem crc_append_eq_zero_iff (octets : List Byte) (high low : Byte) :
    crc (octets ++ [high, low]) = 0 ↔ [high, low] = octetsOfWord (crc octets) := by
  rw [crc_append, foldl_crcOctet]
  constructor
  · intro zero
    have own := eq_wordBits_of_foldl_crcBit (crc octets) (([high, low].map octetBits).flatten) (by simp)
      fun i _ => by rw [zero]; simp
    have parts : octetBits high ++ octetBits low =
        octetBits (octet ((crc octets).toNat / 256)) ++ octetBits (octet (crc octets).toNat) := by
      have split : (([high, low].map octetBits).flatten).length = 16 := by simp
      rw [split, ← octetBits_octetsOfWord] at own
      simpa [octetsOfWord] using own
    obtain ⟨same_high, same_low⟩ := List.append_inj parts rfl
    rw [octetBits_injective same_high, octetBits_injective same_low]
    rfl
  · intro own
    rw [own, octetBits_octetsOfWord, foldl_crcBit_wordBits _ _ le_rfl]
    simp

/-- R32, R37: a frame is received GOOD with no faulty end bit and a check that agrees. -/
theorem reception_good_iff (c : FrameCells) :
    c.reception = .good ↔ c.endFault = false ∧ [c.crcHigh, c.crcLow] = octetsOfWord (crc (c.key :: c.length :: c.body)) := by
  unfold FrameCells.reception FrameCells.crcAgrees
  cases c.endFault <;> simp

/-- Settles O25: the register by `crcBit_eq`, the residue by `crc_append_eq_zero_iff`. -/
theorem frameCheckResidue : Obligations.FrameCheckResidue := by
  unfold Obligations.FrameCheckResidue
  refine ⟨rfl, fun octets b => ?_, fun octets => ?_, fun key length body high low fault => ?_⟩
  · rw [crc_append, List.foldl_cons, List.foldl_nil, crcOctet, octetBits_eq_map, List.foldl_map]
    simp only [crcBit_eq]
  · exact (crc_append_eq_zero_iff octets _ _).mpr rfl
  · rw [crc_append_eq_zero_iff, reception_good_iff]
    rfl

end Sys2Proof.Machine
end

section
/-! The cells of a frame, bit by bit (R31, R34, R36, R37, R122 to R124). -/

namespace Sys2Proof.Machine

set_option Elab.async false

/-! ### A bit of a cell (R36, R37, R123) -/

section
variable {x : Rx} {s : State} (following : s.line.rx = some x) (inside : x.position < x.cellBits)
include following inside

/-- R123: a mark read DRIVE begins a cell. -/
theorem State.frameBit_mark (mark : x.position % 10 = 0) :
    s.frameBit .drive = s.setRx { x with position := x.position + 1, cell := [] } := by
  rw [State.frameBit_cell following inside, State.cellBit]
  simp only [mark, if_true]
  rfl

/-- R123: a data bit that is no bit of the own frame sent as REST and read as DRIVE joins its cell. -/
theorem State.frameBit_data {b : Level} (low : 1 ≤ x.position % 10) (high : x.position % 10 ≤ 8)
    (calm : s.conflict x b = false) :
    s.frameBit b = s.setRx { x with position := x.position + 1, cell := x.cell ++ [b == .rest] } := by
  rw [State.frameBit_cell following inside, State.cellBit]
  simp only [show ¬x.position % 10 = 0 by omega, show x.position % 10 < 9 by omega, calm, if_true, if_false,
    Bool.false_eq_true]

/-- R34, R37: the record of the frame after the end bit of a cell. -/
def Rx.cellRead (b : Level) (x : Rx) : Rx :=
  { x with position := x.position + 1, cell := [], octets := x.octets ++ [octetOfBits x.cell],
           endFault := x.endFault || b == .drive }

/-- R34, R37: the station after the end bit of a cell, before the last cell's tests. -/
def State.cellDone (b : Level) (x : Rx) (s : State) : State :=
  if b = .drive then (s.setRx (x.cellRead b)).markError else s.setRx (x.cellRead b)

/-- R36, R37: an end bit that neither breaks the frame off nor conflicts with the own frame completes its cell, and the
last one the cells. -/
theorem State.frameBit_end {b : Level} (end_bit : x.position % 10 = 9) (faultless : b = .drive → 2 ≤ x.position / 10)
    (length : x.position / 10 = 1 → (octetOfBits x.cell).toNat ≤ 40) (calm : s.conflict x b = false) :
    s.frameBit b =
      if (x.cellRead b).position = (x.cellRead b).cellBits ∧ 2 ≤ (x.cellRead b).octets.length then
        (s.cellDone b x).endOfCells (x.cellRead b)
      else s.cellDone b x := by
  have key : ¬(b = .drive ∧ x.position / 10 = 0) := fun ⟨drive, first⟩ => by have := faultless drive; omega
  have second : ¬(b = .drive ∧ x.position / 10 = 1) := fun ⟨drive, first⟩ => by have := faultless drive; omega
  have extent : ¬(x.position / 10 = 1 ∧ Config.maxBody < (octetOfBits x.cell).toNat) := fun ⟨cell, above⟩ =>
    absurd (length cell) (Nat.not_le.mpr above)
  rw [State.frameBit_cell following inside, State.cellBit]
  simp only [end_bit, show ¬9 = 0 by omega, show ¬9 < 9 by omega, key, second, extent, calm, if_false,
    Bool.false_eq_true]
  rfl

end

/-! ### What a sender sends (R123) -/

theorem sentLevel_mark (octets : List Byte) (n : Nat) : sentLevel octets (10 * n) = .drive := by
  simp [sentLevel]

theorem sentLevel_end (octets : List Byte) (n : Nat) : sentLevel octets (10 * n + 9) = .rest := by
  simp [sentLevel]

/-- R123: a data bit is driven for a 0 and rests for a 1, the most significant first. -/
theorem sentLevel_data (octets : List Byte) (n : Nat) {k : Nat} (small : k < 8) :
    (sentLevel octets (10 * n + (k + 1)) == .rest) = (octets.getD n 0).getLsbD (7 - k) := by
  have place : (10 * n + (k + 1)) % 10 = k + 1 := by omega
  have cell : (10 * n + (k + 1)) / 10 = n := by omega
  unfold sentLevel
  rw [place, cell]
  interval_cases k <;> simp only <;> split <;> simp_all

/-- R123: the octet read from its own bits. -/
theorem octetOfBits_octetBits (b : Byte) : octetOfBits (octetBits b) = b := by
  revert b
  decide +kernel

theorem octetBits_take_succ (b : Byte) {k : Nat} (small : k < 8) :
    (octetBits b).take (k + 1) = (octetBits b).take k ++ [b.getLsbD (7 - k)] := by
  interval_cases k <;> rfl

/-! ### The end of the cells (R34, R60) -/

/-- R60: the clash test keeps the record of the frame and the table. -/
theorem State.clashFound_keeps (c : FrameCells) (s : State) :
    (s.clashFound c).line.rx = s.line.rx ∧ (s.clashFound c).line.tracking = s.line.tracking ∧
      (s.clashFound c).table = s.table ∧ (s.clashFound c).judgement = s.judgement := by
  obtain ⟨-, x⟩ | ⟨-, x⟩ := s.clashFound_cases c <;> rw [x]
  · exact ⟨rfl, rfl, rfl, rfl⟩
  · rw [State.endAttempt_frame]; exact ⟨rfl, rfl, rfl, rfl⟩

theorem State.endOfCells_eq {s : State} (frame : s.line.tracking = .frame) (x : Rx) :
    s.endOfCells x = { s.clashFound x.cells with
      judgement := s.judgement.map ((s.clashFound x.cells).judgeContent x.cells) } := by
  obtain ⟨-, -, -, judgement⟩ := s.clashFound_keeps x.cells
  rw [State.endOfCells, if_pos frame]
  dsimp only
  rw [judgement]

/-- R124: the end of the cells keeps the record of the frame and the table. -/
theorem State.endOfCells_keeps {s : State} (frame : s.line.tracking = .frame) (x : Rx) :
    (s.endOfCells x).line.rx = s.line.rx ∧ (s.endOfCells x).line.tracking = .frame ∧
      (s.endOfCells x).table = s.table := by
  obtain ⟨rx, tracking, table, -⟩ := s.clashFound_keeps x.cells
  rw [State.endOfCells_eq frame]
  exact ⟨rx, tracking.trans frame, table⟩

/-! ### A cell read back -/

section
variable {octets : List Byte} {x : Rx} {s : State} (following : s.line.rx = some x)
  (mine : s.outbound.onLine = none ∨ octets = s.outbound.sending) (empty : x.cell = [])
  (place : x.position = 10 * x.octets.length) (inside : 10 * x.octets.length + 9 < x.cellBits)

/-- R128, R129: what is read as it was sent is no conflict. -/
theorem State.conflict_sent {octets : List Byte} {s : State} (mine : s.outbound.onLine = none ∨ octets = s.outbound.sending)
    (x : Rx) : s.conflict x (sentLevel octets x.position) = false := by
  rw [Bool.eq_false_iff]
  intro c
  obtain ⟨sends, drive, -, rest⟩ := (State.conflict_iff s x _).mp c
  rcases mine with idle | rfl
  · simp [idle] at sends
  · rw [drive] at rest; contradiction

include following mine place inside

/-- R123: the mark and the first data bits of a cell. -/
theorem State.sentBits_read (k : Nat) (small : k ≤ 8) :
    (List.range (k + 1)).foldl (fun u i => u.frameBit (sentLevel octets (10 * x.octets.length + i))) s =
      s.setRx { x with
        position := 10 * x.octets.length + (k + 1), cell := (octetBits (octets.getD x.octets.length 0)).take k } := by
  induction k with
  | zero =>
    rw [List.range_one, List.foldl_cons, List.foldl_nil, Nat.add_zero, sentLevel_mark,
      State.frameBit_mark following (by omega) (by omega), place]
    rfl
  | succ k ih =>
    rw [List.range_succ, List.foldl_append, ih (by omega), List.foldl_cons, List.foldl_nil]
    set y : Rx := { x with
      position := 10 * x.octets.length + (k + 1), cell := (octetBits (octets.getD x.octets.length 0)).take k } with hy
    have y_inside : y.position < y.cellBits := by
      change 10 * x.octets.length + (k + 1) < x.cellBits
      omega
    have calm : (s.setRx y).conflict y (sentLevel octets (10 * x.octets.length + (k + 1))) = false :=
      State.conflict_sent (s := s.setRx y) mine y
    rw [State.frameBit_data (x := y) (s := s.setRx y) rfl y_inside (by simp only [hy]; omega) (by simp only [hy]; omega) calm,
      sentLevel_data octets _ (by omega), octetBits_take_succ _ (by omega)]
    rfl

include empty

/-- R31, R34: the ten bits of a cell are read as the octet sent. -/
theorem State.sentCell_read (length : x.octets.length = 1 → (octets.getD x.octets.length 0).toNat ≤ 40) :
    let x' : Rx := { x with
      position := 10 * x.octets.length + 10, octets := x.octets ++ [octets.getD x.octets.length 0] }
    (List.range 10).foldl (fun u i => u.frameBit (sentLevel octets (10 * x.octets.length + i))) s =
      if x'.position = x'.cellBits ∧ 2 ≤ x'.octets.length then (s.setRx x').endOfCells x' else s.setRx x' := by
  intro x'
  set y : Rx := { x with
    position := 10 * x.octets.length + (8 + 1), cell := (octetBits (octets.getD x.octets.length 0)).take 8 } with hy
  have octet : octetOfBits y.cell = octets.getD x.octets.length 0 := octetOfBits_octetBits _
  have read : y.cellRead .rest = x' := by
    unfold Rx.cellRead
    rw [octet]
    simp [hy, x', empty]
  have cell : y.position / 10 = x.octets.length := by
    simp only [hy]
    omega
  rw [List.range_succ, List.foldl_append, State.sentBits_read following mine place inside 8 le_rfl,
    List.foldl_cons, List.foldl_nil, sentLevel_end,
    State.frameBit_end (x := y) (s := s.setRx y) rfl inside (by simp only [hy]; omega) (fun c => by contradiction)
      (fun second => by rw [octet]; exact length (cell.symm.trans second)) (by simp [State.conflict]), read]
  simp only [State.cellDone, read, reduceCtorEq, if_false]
  rfl

end

/-- R31: the length octet once it is read. -/
theorem getD_one_append {l : List Byte} (two : 2 ≤ l.length) (b : Byte) : (l ++ [b]).getD 1 0 = l.getD 1 0 :=
  List.getD_append _ _ _ _ (by omega)

theorem Rx.cellBits_of_two {x : Rx} (two : 2 ≤ x.octets.length) : x.cellBits = 10 * (4 + (x.octets.getD 1 0).toNat) :=
  if_neg (Nat.not_lt.mpr two)

theorem Rx.cellBits_of_few {x : Rx} (few : x.octets.length < 2) : x.cellBits = 20 :=
  if_pos few

/-- R124: a cell is inside the cells. -/
theorem Rx.cell_inside {x : Rx}
    (due : 2 ≤ x.octets.length → x.octets.length < 4 + (x.octets.getD 1 0).toNat) : 10 * x.octets.length + 9 < x.cellBits := by
  by_cases two : 2 ≤ x.octets.length
  · rw [Rx.cellBits_of_two two]
    have := due two
    omega
  · rw [Rx.cellBits_of_few (by omega)]
    omega

/-- R124: the cells end with the second CRC cell, no earlier. -/
theorem Rx.not_last_cell {x y : Rx} {b : Byte} (octets : y.octets = x.octets ++ [b])
    (position : y.position = 10 * x.octets.length + 10)
    (early : x.octets.length < 2 ∨ x.octets.length + 1 < 4 + (x.octets.getD 1 0).toNat) :
    ¬(y.position = y.cellBits ∧ 2 ≤ y.octets.length) := by
  rintro ⟨last, two⟩
  have count : y.octets.length = x.octets.length + 1 := by simp [octets]
  rw [Rx.cellBits_of_two two, position] at last
  by_cases read : 2 ≤ x.octets.length
  · rw [octets, getD_one_append read] at last
    omega
  · omega

/-! ### The level driven in the cells (R123) -/

/-- R123: in the cells of a frame that is not the own one a station rests. -/
theorem State.driveLevel_of_idle {s : State} {x : Rx} (idle : s.outbound.onLine = none) (inside : x.position < x.cellBits) :
    s.driveLevel x = .rest := by
  unfold State.driveLevel
  simp only [idle, Option.isSome_none, Bool.false_eq_true, false_and, if_false,
    show ¬x.position = x.cellBits + 1 + s.own by omega, show ¬x.position = x.cellBits + 1 + s.rosterSlots by omega,
    show ¬x.position = x.cellBits + 2 + s.rosterSlots by omega,
    show ¬x.position = x.cellBits + 4 + s.rosterSlots + s.own by omega, or_self, and_false, ite_self]

/-- R123: a station that may drive drives the cells of its own frame. -/
theorem State.driveLevel_of_sending {s : State} {x : Rx} (drives : s.station.mayDrive = true)
    (normal : s.line.condition = .normal) (sends : s.outbound.onLine ≠ none)
    (inside : x.position < 10 * s.outbound.sending.length) : s.driveLevel x = sentLevel s.outbound.sending x.position := by
  have on : s.outbound.onLine.isSome = true := Option.isSome_iff_ne_none.mpr sends
  unfold State.driveLevel
  simp [drives, normal, on, inside]

/-- Settles O30: the ten bits by `sentCell_read`, the other clauses by the lemmas on one bit. -/
theorem sentCellIsReadBack : Obligations.SentCellIsReadBack := by
  unfold Obligations.SentCellIsReadBack
  intro octets x s following frame
  dsimp only
  refine ⟨fun mine empty place length due => ?_, fun low high inside => ?_, ?_, fun drives normal => ⟨?_, ?_⟩,
    fun idle two due place => ?_⟩
  · set y : Rx := { x with
      position := 10 * x.octets.length + 10, octets := x.octets ++ [octets.getD x.octets.length 0] } with hy
    have read := State.sentCell_read following mine empty place (Rx.cell_inside due)
      fun one => length one
    rw [← hy] at read
    rw [read]
    by_cases last : y.position = y.cellBits ∧ 2 ≤ y.octets.length
    · rw [if_pos last]
      obtain ⟨rx, tracking, table⟩ := State.endOfCells_keeps (s := s.setRx y) frame y
      refine ⟨rx, table, tracking, fun early => ?_⟩
      exact absurd last (Rx.not_last_cell (x := x) (b := octets.getD x.octets.length 0) rfl rfl early)
    · rw [if_neg last]
      exact ⟨rfl, rfl, frame, fun _ => ⟨rfl, rfl⟩⟩
  · exact State.frameBit_data following inside low high (by simp [State.conflict])
  · simp only [State.openBit, frame, following]
  · exact fun sends inside => State.driveLevel_of_sending drives normal sends inside
  · exact fun idle inside => State.driveLevel_of_idle idle inside
  · have inside : x.position < x.cellBits := place ▸ Rx.cell_inside fun _ => due
    have calm : s.conflict x .drive = false := by simp [State.conflict, idle]
    have done : s.cellDone .drive x = (s.setRx (x.cellRead .drive)).markError := rfl
    set u := (s.setRx (x.cellRead .drive)).markError with hu
    have u_rx : u.line.rx.map Rx.endFault = some true := by simp [hu, State.markError, State.setRx, Rx.cellRead]
    have u_frame : u.line.tracking = .frame := frame
    rw [State.frameBit_end following inside (by omega) (fun _ => by omega) (fun one => by omega) calm, done]
    split
    · have error : (x.cellRead .drive).cells.reception = .error := by
        simp [FrameCells.reception, Rx.cells, Rx.cellRead]
      obtain ⟨rx, tracking, -⟩ := State.endOfCells_keeps u_frame (x.cellRead .drive)
      refine ⟨by rw [rx]; exact u_rx, tracking, ?_⟩
      rw [State.endOfCells_eq u_frame]
      change Option.map _ (Option.map _ (Option.map _ s.judgement)) = _
      rw [Option.map_map, Option.map_map]
      exact congrArg (Option.map · s.judgement) (funext fun _ => congrArg some error)
    · refine ⟨u_rx, frame, ?_⟩
      change Option.map _ (Option.map _ s.judgement) = _
      rw [Option.map_map]
      rfl

end Sys2Proof.Machine
end

section
/-! The phases after the cells, bit by bit (R42 to R47, R60, R123, R124). -/

namespace Sys2Proof.Machine

set_option Elab.async false

/-! ### What is read of a frame, and what its end rests on -/

/-- The station with another record of the frame and another judgement. -/
def State.withReading (r : Option Rx) (j : Option Judgement) (s : State) : State :=
  { s with line := { s.line with rx := r }, judgement := j }

theorem State.settleDropWanted_withReading (r : Option Rx) (j : Option Judgement) (k : EntryKind) (s : State) :
    (s.withReading r j).settleDropWanted k = (s.settleDropWanted k).withReading r j := by
  cases k with
  | claim tag =>
    change (if (s.slotAt tag).dropWanted then _ else _) = State.withReading r j (if (s.slotAt tag).dropWanted then _ else _)
    split <;> rfl
  | _ => rfl

theorem State.endAttempt_withReading (r : Option Rx) (j : Option Judgement) (counted : Bool) (s : State) :
    (s.withReading r j).endAttempt counted = (s.endAttempt counted).withReading r j := by
  have same : (s.withReading r j).outbound = s.outbound := rfl
  obtain ⟨idle, x⟩ | ⟨e, sent, waits, x⟩ | ⟨e, sent, stays, x⟩ := s.endAttempt_cases counted <;> rw [x]
  · simp only [State.endAttempt, same, idle]
  · rw [← State.settleDropWanted_withReading]
    simp only [State.endAttempt, same, sent, waits, if_true]
    rfl
  · simp only [State.endAttempt, same, sent, stays, if_false, Bool.false_eq_true]
    rfl

/-- R60: the clash test rests on the judgement only for the abandoned attempt. -/
theorem State.clashFound_withReading (r : Option Rx) {j : Option Judgement} {s : State}
    (abandoned : j.any Judgement.abandoned = s.gaveUpAttempt) (c : FrameCells) :
    (s.withReading r j).clashFound c = (s.clashFound c).withReading r j := by
  have same : (s.withReading r j).clashes c = s.clashes c := by
    unfold State.clashes
    rw [← abandoned]
    rfl
  unfold State.clashFound
  rw [same, State.endAttempt_withReading]
  split <;> rfl

/-- R47: neither does the end of the frame, which closes both. -/
theorem State.frameEnd_withReading (r : Option Rx) {j : Option Judgement} {s : State} (frame : s.line.tracking = .frame)
    (abandoned : j.any Judgement.abandoned = s.gaveUpAttempt) (obs : FrameObs) :
    (s.withReading r j).frameEnd obs = s.frameEnd obs := by
  have lose : ∀ v : State, (v.withReading r j).loseUnlessOwn obs.cells =
      (v.loseUnlessOwn obs.cells).withReading r j := fun v => by
    unfold State.loseUnlessOwn
    rw [State.endAttempt_withReading]
    change (if v.ownAttempt obs.cells then _ else _) = _
    split <;> rfl
  have settled : ((s.withReading r j).clashFound obs.cells).loseUnlessOwn obs.cells =
      ((s.clashFound obs.cells).loseUnlessOwn obs.cells).withReading r j := by
    rw [State.clashFound_withReading r abandoned, lose]
  rw [State.frameEnd_eq frame, State.frameEnd_eq (s := s.withReading r j) frame, State.settledFrame, settled]
  rfl

/-! ### The bits after the cells (R124) -/

section
variable {x : Rx} {s : State} (following : s.line.rx = some x)
include following

/-- R124: a bit after the cells. -/
theorem State.frameBit_phase (b : Level) (after : x.cellBits ≤ x.position) : s.frameBit b = s.phaseBit b x := by
  simp only [State.frameBit, following, if_neg (Nat.not_lt.mpr after)]

/-- R124: the turn bit. -/
theorem State.frameBit_turn (b : Level) (place : x.position = x.cellBits) :
    s.frameBit b = s.setRx { x with position := x.position + 1 } := by
  rw [State.frameBit_phase following b (by omega)]
  exact if_pos place

/-- R43: a bit of the roll-call. -/
theorem State.frameBit_call (b : Level) {k : Nat} (small : k < s.rosterSlots) (place : x.position = x.cellBits + 1 + k) :
    s.frameBit b =
      let x' := { x with
        position := x.position + 1, rollCall := if b = .drive then setInsert k x.rollCall else x.rollCall }
      if k + 1 = s.rosterSlots then (s.setRx x').decideVoid x' else s.setRx x' := by
  rw [State.frameBit_phase following b (by omega), State.phaseBit]
  dsimp only
  rw [if_neg (by omega), if_pos (by omega), show x.position - x.cellBits - 1 = k by omega]

/-- R45: the first verdict bit. -/
theorem State.frameBit_verdict1 (b : Level) (place : x.position = x.cellBits + 1 + s.rosterSlots) :
    s.frameBit b = s.setRx { x with position := x.position + 1, verdict1 := b } := by
  rw [State.frameBit_phase following b (by omega), State.phaseBit]
  dsimp only
  rw [if_neg (by omega), if_neg (by omega), if_pos place]

/-- R45: the second verdict bit, which ends every frame but a JOIN. -/
theorem State.frameBit_verdict2 (b : Level) (place : x.position = x.cellBits + 2 + s.rosterSlots) :
    s.frameBit b =
      let x' := { x with position := x.position + 1, verdict2 := b }
      if x.cells.frameClass = 2 then (s.setRx x').decideOutcome x'
      else ((s.setRx x').decideOutcome x').frameEnd x'.observed := by
  rw [State.frameBit_phase following b (by omega), State.phaseBit]
  dsimp only
  rw [if_neg (by omega), if_neg (by omega), if_neg (by omega), if_pos place]

/-- R124: the second turn bit, of a JOIN. -/
theorem State.frameBit_turn2 (b : Level) (place : x.position = x.cellBits + 3 + s.rosterSlots) :
    s.frameBit b = s.setRx { x with position := x.position + 1 } := by
  rw [State.frameBit_phase following b (by omega), State.phaseBit]
  dsimp only
  rw [if_neg (by omega), if_neg (by omega), if_neg (by omega), if_neg (by omega), if_pos place]

/-- R46: a bit of the standing call, the last of which ends a JOIN. -/
theorem State.frameBit_stand (b : Level) {k : Nat} (place : x.position = x.cellBits + 4 + s.rosterSlots + k) :
    s.frameBit b =
      let x' := { x with
        position := x.position + 1, standing := if b = .drive then setInsert k x.standing else x.standing }
      if k + 1 = s.rosterSlots then (s.setRx x').frameEnd x'.observed else s.setRx x' := by
  rw [State.frameBit_phase following b (by omega), State.phaseBit]
  dsimp only
  rw [if_neg (by omega), if_neg (by omega), if_neg (by omega), if_neg (by omega), if_neg (by omega),
    show x.position - (x.cellBits + 4 + s.rosterSlots) = k by omega]

end

/-! ### The pictures (R43, R46) -/

/-- R43, R46: the picture after the slots from `k` on are sampled one by one. -/
def sampled (k : Nat) (levels : List Level) (a : StationSet) : StationSet :=
  match levels with
  | [] => a
  | b :: rest => sampled (k + 1) rest (if b = .drive then setInsert k a else a)

/-- R43, R46: the picture holds the slots sampled DRIVE. -/
theorem sampled_eq (levels : List Level) (k : Nat) (a : StationSet) (listed : StationSet.Listed a)
    (small : k + levels.length ≤ Config.stationNumbers) :
    sampled k levels a = setOf fun i => a.contains i || (decide (k ≤ i) && levels.getD (i - k) .rest == .drive) := by
  induction levels generalizing k a with
  | nil =>
    have none_driven : (Level.rest == Level.drive) = false := rfl
    simp only [sampled, List.getD_nil, none_driven, Bool.and_false, Bool.or_false]
    exact listed
  | cons b rest ih =>
    simp only [List.length_cons] at small
    have next_listed : StationSet.Listed (if b = .drive then setInsert k a else a) := by
      split
      · exact StationSet.listed_setOf _
      · exact listed
    rw [sampled, ih _ _ next_listed (by omega)]
    refine setOf_congr fun i bound => ?_
    have first : (if b = .drive then setInsert k a else a).contains i = (a.contains i || (i == k && b == .drive)) := by
      split
      · rename_i drive
        rw [setInsert, contains_setOf, decide_eq_true bound, drive]
        simp [Bool.or_comm]
      · rename_i rest_level
        have : (b == Level.drive) = false := by simpa using rest_level
        simp [this]
    rw [first, Bool.or_assoc]
    congr 1
    rcases Nat.lt_trichotomy i k with below | same | above
    · simp [show ¬k + 1 ≤ i by omega, show ¬k ≤ i by omega, show ¬i = k by omega]
    · simp [same]
    · have shift : i - k = (i - (k + 1)) + 1 := by omega
      simp [shift, show k + 1 ≤ i by omega, show k ≤ i by omega, show ¬i = k by omega]

/-- R43, R46: the picture of a whole call, in the words of the obligations. -/
theorem sampled_picture {levels : List Level} (small : levels.length ≤ Config.stationNumbers) :
    sampled 0 levels [] = (List.range 32).filter fun k => levels.getD k .rest == .drive := by
  rw [sampled_eq levels 0 [] (by simp [StationSet.Listed, setOf]) (by omega)]
  simp [setOf]

/-! ### The phases read one bit after another -/

/-- The state `u` is the station `s` after it read the frame on to `y`: it has the record `y`, and a judgement that keeps
whether the own attempt was abandoned. -/
def State.ReadOn (s : State) (y : Rx) (u : State) : Prop :=
  ∃ j : Option Judgement, j.any Judgement.abandoned = s.gaveUpAttempt ∧ u = s.withReading (some y) j

theorem State.ReadOn.start {s : State} {x : Rx} (following : s.line.rx = some x) : s.ReadOn x s :=
  ⟨s.judgement, rfl, by rw [State.withReading, ← following]⟩

section
variable {s u : State} {y : Rx}

theorem State.ReadOn.following (h : s.ReadOn y u) : u.line.rx = some y := by
  obtain ⟨j, -, rfl⟩ := h; rfl

theorem State.ReadOn.rosterSlots (h : s.ReadOn y u) : u.rosterSlots = s.rosterSlots := by
  obtain ⟨j, -, rfl⟩ := h; rfl

theorem State.ReadOn.setRx (h : s.ReadOn y u) (z : Rx) : s.ReadOn z (u.setRx z) := by
  obtain ⟨j, kept, rfl⟩ := h
  exact ⟨j, kept, rfl⟩

/-- R34: the items that a judgement takes leave the abandonment. -/
theorem any_abandoned_map {f : Judgement → Judgement} (keeps : ∀ j, (f j).abandoned = j.abandoned) (j : Option Judgement) :
    (j.map f).any Judgement.abandoned = j.any Judgement.abandoned := by
  cases j <;> simp [keeps]

theorem State.ReadOn.decideVoid (h : s.ReadOn y u) (z : Rx) : s.ReadOn y (u.decideVoid z) := by
  obtain ⟨j, kept, rfl⟩ := h
  refine ⟨_, ?_, rfl⟩
  change (Option.map _ j).any _ = _
  rw [any_abandoned_map, kept]
  exact fun _ => rfl

theorem State.ReadOn.decideOutcome (h : s.ReadOn y u) (z : Rx) : s.ReadOn y (u.decideOutcome z) := by
  obtain ⟨j, kept, rfl⟩ := h
  refine ⟨_, ?_, rfl⟩
  change (Option.map _ j).any _ = _
  rw [any_abandoned_map, kept]
  exact fun _ => rfl

/-- R47: the frame end after the bits were read is the frame end before. -/
theorem State.ReadOn.frameEnd (h : s.ReadOn y u) (frame : s.line.tracking = .frame) (obs : FrameObs) :
    u.frameEnd obs = s.frameEnd obs := by
  obtain ⟨j, kept, rfl⟩ := h
  exact State.frameEnd_withReading _ frame kept obs

theorem State.ReadOn.turn (h : s.ReadOn y u) (b : Level) (place : y.position = y.cellBits) :
    s.ReadOn { y with position := y.position + 1 } (u.frameBit b) := by
  rw [State.frameBit_turn h.following b place]
  exact h.setRx _

theorem State.ReadOn.call (h : s.ReadOn y u) (b : Level) {k : Nat} (small : k < s.rosterSlots)
    (place : y.position = y.cellBits + 1 + k) :
    s.ReadOn { y with position := y.position + 1, rollCall := if b = .drive then setInsert k y.rollCall else y.rollCall }
      (u.frameBit b) := by
  rw [State.frameBit_call h.following b (by rwa [h.rosterSlots]) place]
  dsimp only
  by_cases last : k + 1 = u.rosterSlots
  · rw [if_pos last]; exact (h.setRx _).decideVoid _
  · rw [if_neg last]; exact h.setRx _

/-- R43: a stretch of the roll-call. -/
theorem State.ReadOn.calls (levels : List Level) (k : Nat) (h : s.ReadOn y u) (small : k + levels.length ≤ s.rosterSlots)
    (place : y.position = y.cellBits + 1 + k) :
    s.ReadOn { y with position := y.position + levels.length, rollCall := sampled k levels y.rollCall }
      (levels.foldl (fun u b => u.frameBit b) u) := by
  induction levels generalizing k y u with
  | nil => exact h
  | cons b rest ih =>
    simp only [List.length_cons] at small
    have step := h.call b (k := k) (by omega) place
    have all := ih (k + 1) step (by omega) (show y.position + 1 = y.cellBits + 1 + (k + 1) by omega)
    rw [List.foldl_cons, List.length_cons, sampled, Nat.add_comm rest.length 1, ← Nat.add_assoc]
    exact all

theorem State.ReadOn.verdict1 (h : s.ReadOn y u) (b : Level) (place : y.position = y.cellBits + 1 + s.rosterSlots) :
    s.ReadOn { y with position := y.position + 1, verdict1 := b } (u.frameBit b) := by
  rw [State.frameBit_verdict1 h.following b (by rwa [h.rosterSlots])]
  exact h.setRx _

/-- R45: the second verdict bit of a JOIN. -/
theorem State.ReadOn.verdict2 (h : s.ReadOn y u) (b : Level) (place : y.position = y.cellBits + 2 + s.rosterSlots)
    (join : y.cells.frameClass = 2) :
    s.ReadOn { y with position := y.position + 1, verdict2 := b } (u.frameBit b) := by
  rw [State.frameBit_verdict2 h.following b (by rwa [h.rosterSlots])]
  dsimp only
  rw [if_pos join]
  exact (h.setRx _).decideOutcome _

/-- R45, R47: the second verdict bit of any other frame ends it. -/
theorem State.ReadOn.verdict2_end (h : s.ReadOn y u) (frame : s.line.tracking = .frame) (b : Level)
    (place : y.position = y.cellBits + 2 + s.rosterSlots) (other : y.cells.frameClass ≠ 2) :
    u.frameBit b = s.frameEnd ({ y with verdict2 := b }).observed := by
  rw [State.frameBit_verdict2 h.following b (by rwa [h.rosterSlots])]
  dsimp only
  rw [if_neg other]
  exact ((h.setRx _).decideOutcome _).frameEnd frame _

theorem State.ReadOn.turn2 (h : s.ReadOn y u) (b : Level) (place : y.position = y.cellBits + 3 + s.rosterSlots) :
    s.ReadOn { y with position := y.position + 1 } (u.frameBit b) := by
  rw [State.frameBit_turn2 h.following b (by rwa [h.rosterSlots])]
  exact h.setRx _

/-- R46, R47: the rest of the standing call ends a JOIN. -/
theorem State.ReadOn.stands_end (frame : s.line.tracking = .frame) (levels : List Level) (k : Nat) (h : s.ReadOn y u)
    (all : k + levels.length = s.rosterSlots) (more : levels ≠ [])
    (place : y.position = y.cellBits + 4 + s.rosterSlots + k) :
    levels.foldl (fun u b => u.frameBit b) u =
      s.frameEnd ({ y with standing := sampled k levels y.standing }).observed := by
  induction levels generalizing k y u with
  | nil => exact absurd rfl more
  | cons b rest ih =>
    simp only [List.length_cons] at all
    have bit := State.frameBit_stand h.following b (k := k) (by rwa [h.rosterSlots])
    rw [h.rosterSlots] at bit
    rw [List.foldl_cons, bit, sampled]
    dsimp only
    cases rest with
    | nil =>
      rw [if_pos (by simpa using all), (h.setRx _).frameEnd frame]
      rfl
    | cons c rest =>
      rw [List.length_cons] at all
      have next := h.setRx { y with
        position := y.position + 1, standing := if b = .drive then setInsert k y.standing else y.standing }
      rw [if_neg (by omega), ih (k + 1) next (by rw [List.length_cons]; omega) (List.cons_ne_nil _ _)
        (show y.position + 1 = y.cellBits + 4 + s.rosterSlots + (k + 1) by omega)]
      rfl

end

/-! ### The level driven after the cells (R42, R44, R46) -/

/-- R42, R44, R46: after the cells, and past the bits of its own frame, a station that may drive drives its three items. -/
theorem State.driveLevel_of_phase {s : State} {x : Rx} (drives : s.station.mayDrive = true)
    (normal : s.line.condition = .normal) (member : s.own < s.rosterSlots) (two : 2 ≤ x.octets.length)
    (sent : s.outbound.onLine = none ∨ 10 * s.outbound.sending.length ≤ x.position) :
    s.driveLevel x =
      if x.position = x.cellBits + 1 + s.own then (s.judgement.bind Judgement.ack).getD .rest
      else if x.position = x.cellBits + 1 + s.rosterSlots ∨ x.position = x.cellBits + 2 + s.rosterSlots then
        (s.judgement.bind Judgement.void).getD .rest
      else if x.cells.frameClass = 2 ∧ x.position = x.cellBits + 4 + s.rosterSlots + s.own ∧ s.station = .synced then .drive
      else .rest := by
  have past : ¬(s.outbound.onLine.isSome = true ∧ x.position < 10 * s.outbound.sending.length) := by
    rintro ⟨sends, inside⟩
    rcases sent with idle | past
    · simp [idle] at sends
    · omega
  unfold State.driveLevel
  simp only [drives, normal, past, member, Nat.not_lt.mpr two, beq_self_eq_true, Bool.and_self, reduceCtorEq, if_false,
    and_true, State.stand, true_and]
  by_cases synced : s.station = .synced
  · simp only [synced, if_true, and_true]
  · simp only [synced, if_false, and_false, ite_self]

/-! ### The end of the cells (R34, R60) -/

/-- R34, R60, R61: the last end bit of the cells is the clash test, and sets the items of an open judgement. -/
theorem State.frameBit_last_cell {x : Rx} {s : State} (following : s.line.rx = some x) (frame : s.line.tracking = .frame)
    (two : 2 ≤ x.octets.length) (place : x.position + 1 = x.cellBits)
    (last : x.octets.length + 1 = 4 + (x.octets.getD 1 0).toNat) {b : Level} (calm : b = .rest ∨ s.outbound.onLine = none) :
    s.frameBit b =
      let tested := (s.setRx (x.cellRead b)).clashFound (x.cellRead b).cells
      { tested with judgement := s.judgement.map (tested.judgeContent (x.cellRead b).cells) } := by
  set y := x.cellRead b with hy
  have bits : x.cellBits = 10 * (4 + (x.octets.getD 1 0).toNat) := Rx.cellBits_of_two two
  have y_two : 2 ≤ y.octets.length := by simp only [hy, Rx.cellRead, List.length_append]; omega
  have y_bits : y.cellBits = x.cellBits := by
    rw [Rx.cellBits_of_two y_two, bits]
    simp only [hy, Rx.cellRead, getD_one_append two]
  have conflict : s.conflict x b = false := by
    rcases calm with rest | idle
    · simp [State.conflict, rest]
    · simp [State.conflict, idle]
  have ends := State.frameBit_end following (by omega) (b := b) (by omega) (fun _ => by omega) (fun one => by omega) conflict
  rw [← hy, if_pos ⟨place.trans y_bits.symm, y_two⟩] at ends
  obtain ⟨j, kept, done⟩ : ∃ j : Option Judgement, (j.any Judgement.abandoned = s.gaveUpAttempt ∧
      ∀ v : State, j.map (v.judgeContent y.cells) = s.judgement.map (v.judgeContent y.cells)) ∧
      s.cellDone b x = s.withReading (some y) j := by
    unfold State.cellDone
    split
    · refine ⟨s.judgement.map fun j => { j with reception := some .error }, ⟨?_, fun v => ?_⟩, rfl⟩
      · rw [any_abandoned_map]
        · rfl
        · exact fun _ => rfl
      · rw [Option.map_map]
        rfl
    · exact ⟨s.judgement, ⟨rfl, fun _ => rfl⟩, rfl⟩
  have test : (s.setRx y).clashFound y.cells = (s.clashFound y.cells).withReading (some y) s.judgement :=
    State.clashFound_withReading (s := s) (some y) rfl y.cells
  rw [ends, done, State.endOfCells_eq (s := s.withReading (some y) j) frame, State.clashFound_withReading (some y) kept.1, test]
  exact congrArg (fun k : Option Judgement => ({ (s.clashFound y.cells).withReading (some y) j with judgement := k } : State))
    (kept.2 _)

/-- R45: the second verdict sample fixes the outcome. -/
theorem State.decideOutcome_setRx (x : Rx) (s : State) :
    (s.setRx x).decideOutcome x = { s with
      line := { s.line with rx := some x }
      judgement := s.judgement.map fun j =>
        { j with outcome := some (if x.verdict1 = .rest ∧ x.verdict2 = .rest then .taken else .void) } } := by
  have taken : x.observed.taken = true ↔ x.verdict1 = .rest ∧ x.verdict2 = .rest := by simp [FrameObs.taken, Rx.observed]
  simp only [State.decideOutcome, taken]
  rfl

/-- R43: the picture with the last slot's sample. -/
theorem picture_insert {a : StationSet} (listed : (List.range 32).filter a.contains = a) (n : Nat) (b : Level) :
    (if b = .drive then setInsert n a else a) =
      (List.range 32).filter fun k => a.contains k || (k == n && b == .drive) := by
  cases b
  · exact List.filter_congr fun k _ => by simp [Bool.or_comm]
  · have none_driven : (Level.rest == Level.drive) = false := rfl
    simp only [none_driven, Bool.and_false, Bool.or_false, reduceCtorEq, if_false]
    exact listed.symm

/-- R43, R45 to R47: the bits after the cells, read one after another, are the frame end of what they show. -/
theorem State.phaseBits_read {x : Rx} {s : State} (following : s.line.rx = some x) (frame : s.line.tracking = .frame)
    (slots : 1 ≤ s.rosterSlots ∧ s.rosterSlots ≤ 32) (place : x.position = x.cellBits) (no_calls : x.rollCall = [])
    (no_stands : x.standing = []) (turn verdict1 verdict2 turn2 : Level) {calls stands : List Level}
    (call_count : calls.length = s.rosterSlots) (stand_count : stands.length = s.rosterSlots) :
    ([turn] ++ calls ++ [verdict1, verdict2] ++ (if x.cells.frameClass = 2 then [turn2] ++ stands else [])).foldl
        (fun u b => u.frameBit b) s =
      s.frameEnd
        { cells := x.cells, rollCall := (List.range 32).filter fun k => calls.getD k .rest == .drive
          verdict1 := verdict1, verdict2 := verdict2
          standing := if x.cells.frameClass = 2 then (List.range 32).filter fun k => stands.getD k .rest == .drive
            else [] } := by
  have bits : ∀ p calls v1 v2 stands, ({ x with
      position := p, rollCall := calls, verdict1 := v1, verdict2 := v2, standing := stands } : Rx).cellBits = x.cellBits :=
    fun _ _ _ _ _ => rfl
  have cells : ∀ p calls v1 v2 stands, ({ x with
      position := p, rollCall := calls, verdict1 := v1, verdict2 := v2, standing := stands } : Rx).cells = x.cells :=
    fun _ _ _ _ _ => rfl
  have called := ((State.ReadOn.start following).turn turn place).calls calls 0 (by omega) (by
    dsimp only
    rw [bits]
    omega)
  have judged := called.verdict1 verdict1 (by
    dsimp only
    rw [bits]
    omega)
  have call_picture : sampled 0 calls x.rollCall = (List.range 32).filter fun k => calls.getD k .rest == .drive := by
    rw [no_calls, sampled_picture (by rw [call_count]; exact slots.2)]
  have stand_picture : sampled 0 stands x.standing = (List.range 32).filter fun k => stands.getD k .rest == .drive := by
    rw [no_stands, sampled_picture (by rw [stand_count]; exact slots.2)]
  simp only [List.foldl_append, List.foldl_cons, List.foldl_nil]
  by_cases join : x.cells.frameClass = 2
  · have stood := ((judged.verdict2 verdict2 (by dsimp only; rw [bits]; omega) (by rw [cells]; exact join)).turn2 turn2 (by
      dsimp only
      rw [bits]
      omega)).stands_end frame stands 0 (by omega) (List.ne_nil_of_length_pos (by omega)) (by dsimp only; rw [bits]; omega)
    rw [if_pos join, if_pos join, List.foldl_append, List.foldl_cons, List.foldl_nil, stood,
      ← call_picture, ← stand_picture]
    rfl
  · have ended := judged.verdict2_end frame verdict2 (by dsimp only; rw [bits]; omega) (by rw [cells]; exact join)
    rw [if_neg join, if_neg join, List.foldl_nil, ended, ← call_picture, ← no_stands]
    rfl

/-- Settles O31: the drive level by `driveLevel_of_phase`, the bits by the lemmas on one bit, and the run of bits by
`ReadOn`. -/
theorem phasesAfterTheCells : Obligations.PhasesAfterTheCells := by
  unfold Obligations.PhasesAfterTheCells
  intro x s following frame two four slots
  have base : x.cellBits = 10 * (4 + (x.octets.getD 1 0).toNat) := Rx.cellBits_of_two two
  dsimp only
  rw [← base]
  refine ⟨fun drives normal member after sent => ?_, fun b place last calm => ?_, fun b place listed => ?_,
    fun b place => ⟨fun join => ?_, fun other => ?_⟩,
    fun turn verdict1 verdict2 turn2 calls stands place no_calls no_stands call_count stand_count => ?_⟩
  · refine State.driveLevel_of_phase ?_ normal member two sent
    rcases drives with h | h | h <;> simp [h, StationState.mayDrive]
  · have next : x.position + 1 = x.cellBits := by omega
    have read : ({ x with
        position := x.cellBits, cell := [], octets := x.octets ++ [octetOfBits x.cell],
        endFault := x.endFault || b == .drive } : Rx) = x.cellRead b := by
      rw [Rx.cellRead, next]
    rw [read]
    refine ⟨(s.setRx (x.cellRead b)).clashFound (x.cellRead b).cells, congrArg Host.Outcome.next (if_pos frame), fun j open_ => ?_⟩
    rw [State.frameBit_last_cell following frame two next last calm, open_]
    rfl
  · rw [State.frameBit_call following b (k := s.rosterSlots - 1) (by omega) (by omega)]
    dsimp only
    rw [if_pos (by omega), picture_insert listed]
    rfl
  · rw [State.frameBit_verdict2 following b place]
    dsimp only
    rw [if_pos join, State.decideOutcome_setRx]
  · rw [State.frameBit_verdict2 following b place]
    dsimp only
    rw [if_neg other, State.decideOutcome_setRx]
    rfl
  · rw [State.phaseBits_read following frame ⟨by omega, slots⟩ place no_calls no_stands turn verdict1 verdict2 turn2 call_count
      stand_count]
    rfl

end Sys2Proof.Machine
end

section
/-! The frames a station assembles, read back (R31, R39, R88, R108). -/

namespace Sys2Proof.Machine

set_option Elab.async false

/-! ### Octets and their fields -/

theorem octet_toNat {n : Nat} (small : n < 256) : (octet n).toNat = n :=
  Nat.mod_eq_of_lt small

theorem map_toNat_map_octet {l : List Nat} (small : ∀ n ∈ l, n < 256) : (l.map octet).map BitVec.toNat = l := by
  rw [List.map_map]
  exact (List.map_congr_left fun n hn => octet_toNat (small n hn)).trans (List.map_id l)

theorem wordOfOctets_octetsOfWord (w : Word16) : wordOfOctets (octet (w.toNat / 256)) (octet w.toNat) = w := by
  have small := w.isLt
  refine BitVec.eq_of_toNat_eq ?_
  simp only [wordOfOctets, octet, BitVec.toNat_ofNat]
  omega

/-- R31: the fields of a key octet. -/
theorem keyOctet_fields {frameClass : Nat} (small : frameClass < 8) (station : Nat) :
    field (keyOctet frameClass station) 7 5 = frameClass ∧ field (keyOctet frameClass station) 4 0 = station % 32 := by
  simp only [keyOctet, field, octet, BitVec.toNat_ofNat]
  omega

theorem EntryKind.frameClass_lt (k : EntryKind) : k.frameClass < 8 := by
  cases k <;> simp [EntryKind.frameClass]

theorem modeOfBit_bit (m : Mode) : modeOfBit m.bit = m := by
  cases m <;> rfl

theorem Mode.bit_le (m : Mode) : m.bit ≤ 1 := by
  cases m <;> simp [Mode.bit]

theorem Status.bit_le (x : Status) : x.bit ≤ 1 := by
  cases x <;> simp [Status.bit]

/-! ### Station bitmaps (R31) -/

/-- The number whose bits below `n` are these. -/
def numberOfBits (p : Nat → Bool) (n : Nat) : Nat :=
  (List.range n).foldl (fun m i => m + if p i then 2 ^ i else 0) 0

theorem numberOfBits_succ (p : Nat → Bool) (n : Nat) :
    numberOfBits p (n + 1) = numberOfBits p n + if p n then 2 ^ n else 0 := by
  simp [numberOfBits, List.range_succ]

theorem numberOfBits_lt (p : Nat → Bool) (n : Nat) : numberOfBits p n < 2 ^ n := by
  induction n with
  | zero => simp [numberOfBits]
  | succ n ih =>
    rw [numberOfBits_succ, Nat.pow_succ]
    split <;> omega

theorem testBit_numberOfBits (p : Nat → Bool) {n i : Nat} (small : i < n) : (numberOfBits p n).testBit i = p i := by
  induction n with
  | zero => omega
  | succ n ih =>
    have below := numberOfBits_lt p n
    rw [numberOfBits_succ]
    rcases Nat.lt_succ_iff_lt_or_eq.mp small with earlier | rfl
    · rw [← ih earlier]
      split
      · rw [Nat.add_comm, Nat.testBit_two_pow_add_gt earlier]
      · rfl
    · cases last : p i
      · simp [Nat.testBit_lt_two_pow below]
      · simp [Nat.add_comm _ (2 ^ i), Nat.testBit_two_pow_add_eq, Nat.testBit_lt_two_pow below]

/-- R31: bit `i` of a bitmap octet is station `8 j + i`. -/
theorem bitmapOctet_getLsbD (a : StationSet) (j : Nat) {i : Nat} (small : i < 8) :
    (bitmapOctet a j).getLsbD i = a.contains (8 * j + i) := by
  change (octet (numberOfBits (fun i => a.contains (8 * j + i)) 8)).getLsbD i = _
  rw [octet, BitVec.getLsbD_ofNat, decide_eq_true small, Bool.true_and, testBit_numberOfBits _ small]

/-- R31: a bitmap shows the set it was made of. -/
theorem setOfBitmap_bitmapOctets {a : StationSet} (listed : StationSet.Listed a) : setOfBitmap (bitmapOctets a) = a := by
  conv_rhs => rw [listed]
  refine setOf_congr fun i small => ?_
  have small : i < 32 := small
  have octets : (bitmapOctets a).getD (i / 8) 0 = bitmapOctet a (i / 8) := by
    have quotient : i / 8 = 0 ∨ i / 8 = 1 ∨ i / 8 = 2 ∨ i / 8 = 3 := by omega
    rcases quotient with h | h | h | h <;> rw [h] <;> rfl
  rw [octets, bitmapOctet_getLsbD a _ (by omega), show 8 * (i / 8) + i % 8 = i by omega]

/-! ### The cells of an assembled frame (R31, R32) -/

/-- R31, R32: the cells of a frame with this key and body. -/
def sentCells (key : Byte) (body : List Byte) : FrameCells :=
  { key := key, length := octet body.length, body := body
    crcHigh := octet ((crc (key :: octet body.length :: body)).toNat / 256)
    crcLow := octet (crc (key :: octet body.length :: body)).toNat, endFault := false }

/-- R31: the cells read off the octets of a whole frame. -/
theorem cells_of_frameOctets (key : Byte) (body : List Byte) :
    ({ key := (frameOctets key body).getD 0 0, length := (frameOctets key body).getD 1 0,
       body := ((frameOctets key body).drop 2).take ((frameOctets key body).length - 4),
       crcHigh := (frameOctets key body).getD ((frameOctets key body).length - 2) 0,
       crcLow := (frameOctets key body).getD ((frameOctets key body).length - 1) 0, endFault := false } : FrameCells) =
      sentCells key body := by
  set w := crc (key :: octet body.length :: body) with hw
  have whole : frameOctets key body = key :: octet body.length :: (body ++ [octet (w.toNat / 256), octet w.toNat]) := rfl
  have count : (frameOctets key body).length = body.length + 4 := by simp [whole]
  rw [count, whole, sentCells, ← hw]
  simp [List.getD_eq_getElem?_getD]

theorem sentCells_good (key : Byte) (body : List Byte) : (sentCells key body).reception = .good :=
  (reception_good_iff _).mpr ⟨rfl, rfl⟩

theorem sentCells_wellFormed (key : Byte) {body : List Byte} (short : body.length ≤ 40) :
    (sentCells key body).wellFormed = true := by
  have length : (octet body.length).toNat = body.length := octet_toNat (by omega)
  simp [FrameCells.wellFormed, sentCells, length, Config.maxBody, short]

/-! ### The bodies read back (R39) -/

theorem parseExpire_octet {r target : Nat} (bound : r ≤ 32) (small : target < r) :
    parseExpire r [octet target] = some (.expire target) := by
  have fields : field (octet target) 7 5 = 0 ∧ field (octet target) 4 0 = target := by
    simp only [field, octet, BitVec.toNat_ofNat]
    omega
  simp [parseExpire, fields, small]

theorem parseDrop_octet {tag : Nat} (small : tag < 8) : parseDrop [octet tag] = some (.drop tag) := by
  have fields : field (octet tag) 7 3 = 0 ∧ field (octet tag) 2 0 = tag := by
    simp only [field, octet, BitVec.toNat_ofNat]
    omega
  simp [parseDrop, fields]

/-- R172: what START accepted, as far as a JOIN carries it. -/
theorem ConfigSet.joinFields_of_accepted {c : ConfigSet} (accepted : c.failedCheck = 0) :
    (4 ≤ c.rosterSlots.toNat ∧ c.rosterSlots.toNat ≤ 32) ∧ (8 ≤ c.zoneCount.toNat ∧ c.zoneCount.toNat ≤ 64) ∧
      (2 ≤ c.evict.toNat ∧ c.evict.toNat ≤ 8) ∧ 2 ≤ c.leaseCode.toNat := by
  simp only [ConfigSet.failedCheck] at accepted
  split_ifs at accepted
  all_goals first | contradiction | omega

/-- R31, R79: the octet of rate and eviction threshold in a JOIN. -/
theorem joinOctet_fields {rate : BitVec 2} {evict : Byte} (small : evict.toNat ≤ 8) :
    field (octet (64 * rate.toNat + evict.toNat)) 3 0 = evict.toNat ∧
      field (octet (64 * rate.toNat + evict.toNat)) 5 4 = 0 ∧
      field (octet (64 * rate.toNat + evict.toNat)) 7 6 = rate.toNat := by
  have rate_small := rate.isLt
  simp only [field, octet, BitVec.toNat_ofNat]
  omega

theorem parseJoin_joinBody {c : ConfigSet} (accepted : c.failedCheck = 0) (pass : Bool) :
    parseJoin (c.joinBody pass) = some (.join pass) ∧ c.fingerprintDiffers (c.joinBody pass) = false := by
  obtain ⟨roster, zones, evict, lease⟩ := ConfigSet.joinFields_of_accepted accepted
  obtain ⟨low, unused, high⟩ := joinOctet_fields (rate := c.rate) evict.2
  have pass_field : field (octet pass.toNat) 7 1 = 0 ∧ (octet pass.toNat).getLsbD 0 = pass := by
    cases pass <;> exact ⟨rfl, rfl⟩
  constructor
  · unfold parseJoin ConfigSet.joinBody
    dsimp only
    rw [if_pos ⟨roster, zones, by rwa [low], unused, lease, pass_field.1⟩, pass_field.2]
  · simp [ConfigSet.fingerprintDiffers, ConfigSet.joinBody, low, high]

/-- R31, R137: a CLAIM with the tag and the fields of its slot. -/
theorem parseClaim_claimBody {z tag : Nat} {b : Slot} {m : Mode} (bound : z ≤ 64) (small : tag < 8) (mode : b.mode = some m)
    (fits : zonesFit z b.zones = true) : parseClaim z (claimBody tag b) = some (.claim tag m b.zones) := by
  have shape := fits
  simp only [zonesFit, Bool.and_eq_true, decide_eq_true_eq, List.all_eq_true] at shape
  obtain ⟨⟨⟨-, four⟩, inside⟩, -⟩ := shape
  have zones : (b.zones.map octet).map BitVec.toNat = b.zones :=
    map_toNat_map_octet fun n hn => by have := inside n hn; omega
  have count : (octet b.zones.length).toNat = b.zones.length := octet_toNat (by omega)
  have mode_bit := m.bit_le
  have fields : field (octet (128 * m.bit + tag)) 6 3 = 0 ∧ field (octet (128 * m.bit + tag)) 2 0 = tag ∧
      field (octet (128 * m.bit + tag)) 7 7 = m.bit := by
    simp only [field, octet, BitVec.toNat_ofNat]
    omega
  obtain ⟨unused, tag_field, mode_field⟩ := fields
  change parseClaim z (octet (128 * (b.mode.getD .shared).bit + tag) :: octet b.zones.length :: b.zones.map octet) = _
  rw [mode, Option.getD_some, parseClaim, zones, if_pos ⟨unused, by rw [List.length_map, count], fits⟩, tag_field, mode_field,
    modeOfBit_bit]

/-! ### A CENSUS part read back (R31, R39, R88) -/

/-- R31: the zone octets of a record: the zones and, up to four, 0xFF. -/
def recordZoneOctets (zones : List Nat) : List Byte :=
  (zones.map octet ++ [0xFF#8, 0xFF#8, 0xFF#8, 0xFF#8]).take 4

theorem recordZoneOctets_eq {zones : List Nat} (four : zones.length ≤ 4) :
    recordZoneOctets zones = zones.map octet ++ List.replicate (4 - zones.length) 0xFF#8 := by
  have unused : [0xFF#8, 0xFF#8, 0xFF#8, 0xFF#8] = List.replicate 4 0xFF#8 := rfl
  rw [recordZoneOctets, unused, List.take_append, List.take_of_length_le (by simpa using four), List.take_replicate,
    List.length_map, Nat.min_eq_left (by omega)]

theorem recordOctets_eq (r : Record) :
    recordOctets r = octet (8 * r.owner + r.tag) :: octet (128 * r.mode.bit + 64 * r.status.bit + r.zones.length) ::
      recordZoneOctets r.zones := rfl

theorem recordOctets_length (r : Record) : (recordOctets r).length = 6 := by
  simp [recordOctets_eq, recordZoneOctets]

/-- R39: a record parsed, its four zone octets taken together. -/
theorem parseRecord_eq (rosterSlots zoneCount : Nat) (a b : Byte) {l : List Byte} (four : l.length = 4) :
    parseRecord rosterSlots zoneCount (a :: b :: l) =
      if field a 7 3 < rosterSlots ∧ field b 5 3 = 0 ∧ field b 2 0 ≤ 4 ∧
          zonesFit zoneCount ((l.take (field b 2 0)).map BitVec.toNat) = true ∧
          (l.drop (field b 2 0)).all (fun z => z == 0xFF#8) = true then
        some { owner := field a 7 3, tag := field a 2 0, mode := modeOfBit (field b 7 7),
               zones := (l.take (field b 2 0)).map BitVec.toNat,
               status := if field b 6 6 = 0 then .waiting else .granted }
      else none := by
  match l, four with
  | [_, _, _, _], _ => rfl

theorem parseRecord_recordOctets {rosterSlots zoneCount : Nat} {r : Record} (slots : rosterSlots ≤ 32) (bound : zoneCount ≤ 64)
    (fits : r.Fits) (owner : r.owner < rosterSlots) (zones : ∀ z ∈ r.zones, z < zoneCount) :
    parseRecord rosterSlots zoneCount (recordOctets r) = some r := by
  obtain ⟨-, tag, one, four, nodup, -⟩ := fits
  have tag : r.tag < 8 := tag
  have mode_bit := r.mode.bit_le
  have status_bit := r.status.bit_le
  have first : field (octet (8 * r.owner + r.tag)) 7 3 = r.owner ∧ field (octet (8 * r.owner + r.tag)) 2 0 = r.tag := by
    simp only [field, octet, BitVec.toNat_ofNat]
    omega
  set second := octet (128 * r.mode.bit + 64 * r.status.bit + r.zones.length) with second_eq
  have fields : field second 5 3 = 0 ∧ field second 2 0 = r.zones.length ∧ field second 7 7 = r.mode.bit ∧
      field second 6 6 = r.status.bit := by
    simp only [second_eq, field, octet, BitVec.toNat_ofNat]
    omega
  obtain ⟨unused, count, mode_field, status_field⟩ := fields
  have named : (((recordZoneOctets r.zones).take r.zones.length).map BitVec.toNat) = r.zones := by
    rw [recordZoneOctets_eq four, List.take_left' (List.length_map _)]
    exact map_toNat_map_octet fun z hz => by have := zones z hz; omega
  have rest : ((recordZoneOctets r.zones).drop r.zones.length).all (fun z => z == 0xFF#8) = true := by
    rw [recordZoneOctets_eq four, List.drop_left' (List.length_map _)]
    simp
  have zones_fit : zonesFit zoneCount r.zones = true := by
    simp only [zonesFit, Bool.and_eq_true, decide_eq_true_eq, List.all_eq_true]
    exact ⟨⟨⟨one, four⟩, zones⟩, nodup⟩
  rw [recordOctets_eq, ← second_eq, parseRecord_eq _ _ _ _ (by simp [recordZoneOctets]), first.1, first.2, count, named, mode_field,
    status_field, modeOfBit_bit, if_pos ⟨owner, unused, four, zones_fit, rest⟩]
  cases status : r.status
  · simp [Status.bit, ← status]
  · simp [Status.bit, ← status]

theorem parseRecords_flatten {rosterSlots zoneCount : Nat} {records : List Record}
    (each : ∀ r ∈ records, parseRecord rosterSlots zoneCount (recordOctets r) = some r) :
    parseRecords rosterSlots zoneCount records.length ((records.map recordOctets).flatten) = some records := by
  induction records with
  | nil => rfl
  | cons r rest ih =>
    have others := ih fun q hq => each q (List.mem_cons_of_mem _ hq)
    have first := each r List.mem_cons_self
    have size := recordOctets_length r
    rw [List.map_cons, List.flatten_cons, List.length_cons, parseRecords, List.take_left' size, List.drop_left' size, first, others]
    rfl

/-- R88: how many records a part carries. -/
theorem partRecords_length (requests : List Record) (i : Nat) :
    (partRecords requests i).length = min 4 (requests.length - 4 * i) := by
  simp [partRecords]

/-- R39, R88: the part of a table's census, 48 records at most, has the shape of a part. -/
theorem partShape_partRecords {requests : List Record} {i : Nat} (most : requests.length ≤ 48)
    (below : i < partCount requests.length) :
    partShape i (partCount requests.length) (partRecords requests i).length = true := by
  simp only [partShape, decide_eq_true_eq, partRecords_length]
  simp only [partCount] at *
  omega

/-- R39: a CENSUS body, taken apart. -/
theorem parseCensus_eq (rosterSlots zoneCount : Nat) (w : Word16) (i c n : Byte) (joiners : StationSet) (rest : List Byte) :
    parseCensus rosterSlots zoneCount (octetsOfWord w ++ [i, c, n] ++ bitmapOctets joiners ++ rest) =
      if partShape i.toNat c.toNat n.toNat = true ∧
          (setOfBitmap (bitmapOctets joiners)).all (fun k => decide (k < rosterSlots)) = true then
        (parseRecords rosterSlots zoneCount n.toNat rest).map fun records =>
          .census
            { sequence := wordOfOctets (octet (w.toNat / 256)) (octet w.toNat)
              index := i.toNat
              count := c.toNat
              joiners := setOfBitmap (bitmapOctets joiners)
              records := records }
      else none := rfl

theorem State.parseCensus_censusBody {s : State} (config : s.ConfigFits) (left : s.station ≠ .config) (sound : s.table.Sound)
    {i : Nat} (below : i < partCount s.table.requests.length)
    (inside : ∀ r ∈ s.table.requests, r.owner < s.rosterSlots ∧ ∀ z ∈ r.zones, z < s.zoneCount)
    (joiners : ∀ j ∈ s.census.joiners, j < s.rosterSlots) (listed : StationSet.Listed s.census.joiners) :
    parseCensus s.rosterSlots s.zoneCount (s.censusBody i) =
      some (.census
        { sequence := if s.station = .synced then s.table.sequence + 1 else 0
          index := i
          count := partCount s.table.requests.length
          joiners := s.census.joiners
          records := partRecords s.table.requests i }) := by
  obtain ⟨⟨-, slots⟩, -, zones, -⟩ := config.bounds left
  obtain ⟨fits, -, most, -⟩ := sound
  have most : s.table.requests.length ≤ 48 := most
  have shape := partShape_partRecords most below
  have parts : partCount s.table.requests.length ≤ 12 := by
    simp only [partCount]
    omega
  have few : (partRecords s.table.requests i).length ≤ 4 := by
    rw [partRecords_length]
    omega
  have records : parseRecords s.rosterSlots s.zoneCount (partRecords s.table.requests i).length
      (((partRecords s.table.requests i).map recordOctets).flatten) = some (partRecords s.table.requests i) :=
    parseRecords_flatten fun r hr => by
      have mem : r ∈ s.table.requests := List.mem_of_mem_drop (List.mem_of_mem_take hr)
      exact parseRecord_recordOctets slots zones (fits r mem) (inside r mem).1 (inside r mem).2
  rw [State.censusBody, parseCensus_eq, octet_toNat (by omega), octet_toNat (by omega), octet_toNat (by omega),
    setOfBitmap_bitmapOctets listed, wordOfOctets_octetsOfWord, records, if_pos ⟨shape, by simpa using joiners⟩]
  rfl

/-! ### The frame of any entry -/

theorem length_flatten_recordOctets (records : List Record) : ((records.map recordOctets).flatten).length = 6 * records.length := by
  induction records with
  | nil => rfl
  | cons r rest ih =>
    rw [List.map_cons, List.flatten_cons, List.length_append, ih, recordOctets_length, List.length_cons]
    omega

/-- R13, R134: no slot names more than four zones. -/
theorem State.SlotsFit.zones_le {s : State} (fits : s.SlotsFit) (k : Nat) : (s.slotAt k).zones.length ≤ 4 := by
  by_cases inside : k < s.slots.length
  · have found := State.slotAt_of_getElem? (List.getElem?_eq_getElem inside)
    obtain ⟨free, busy, -⟩ := fits.2.1 _ (List.getElem_mem inside)
    rw [found]
    by_cases empty : (s.slots[k]).state = .free
    · simp [(free empty).2]
    · have shape := (busy empty).2
      simp only [zonesFit, Bool.and_eq_true, decide_eq_true_eq] at shape
      exact shape.1.1.2
  · have fresh : s.slotAt k = Slot.fresh := by
      rw [State.slotAt, List.getD_eq_getElem?_getD, List.getElem?_eq_none (Nat.le_of_not_lt inside), Option.getD_none]
    simp [fresh, Slot.fresh]

/-- R31, R36: no assembled body is longer than 40 octets. -/
theorem State.bodyOf_length_le {s : State} (slots : s.SlotsFit) (k : EntryKind) : (s.bodyOf k).length ≤ 40 := by
  cases k with
  | expire target => exact Nat.le_of_ble_eq_true rfl
  | leave => exact Nat.zero_le _
  | join pass => exact Nat.le_of_ble_eq_true rfl
  | drop tag => exact Nat.le_of_ble_eq_true rfl
  | pulse => exact Nat.zero_le _
  | claim tag =>
    have few := slots.zones_le tag
    simp only [State.bodyOf, claimBody, List.length_append, List.length_map, List.length_cons, List.length_nil]
    omega
  | census part =>
    have few : (partRecords s.table.requests part).length ≤ 4 := by
      rw [partRecords_length]
      omega
    simp only [State.bodyOf, State.censusBody, List.length_append, length_flatten_recordOctets, octetsOfWord, bitmapOctets,
      List.length_cons, List.length_nil]
    omega

/-- R31, R39: an assembled frame is parsed by its entry's class. -/
theorem State.parse_sentCells (s : State) (k : EntryKind) (body : List Byte) :
    s.parse (sentCells (keyOctet k.frameClass s.own) body) = parseFrame s.rosterSlots s.zoneCount k.frameClass body := by
  have frameClass : (sentCells (keyOctet k.frameClass s.own) body).frameClass = k.frameClass :=
    (keyOctet_fields k.frameClass_lt s.own).1
  rw [State.parse, frameClass]
  rfl

/-- R13, R31, R137: the CLAIM of a slot that is not FREE is read back with the slot's mode and zones. -/
theorem State.parse_claim {s : State} (config : s.ConfigFits) (left : s.station ≠ .config) (slots : s.SlotsFit) {tag : Nat}
    (small : tag < 8) (busy : (s.slotAt tag).state ≠ .free) :
    ∃ m, (s.slotAt tag).mode = some m ∧
      parseClaim s.zoneCount (claimBody tag (s.slotAt tag)) = some (.claim tag m (s.slotAt tag).zones) := by
  obtain ⟨-, -, zones, -⟩ := config.bounds left
  obtain ⟨-, held, -⟩ := State.slotAt_fits slots busy
  obtain ⟨moded, fits⟩ := held busy
  obtain ⟨m, mode⟩ := Option.isSome_iff_exists.mp moded
  exact ⟨m, mode, parseClaim_claimBody zones small mode fits⟩

/-- Settles O26, kind by kind: each body is parsed back to its fields, and key, length and check to theirs. -/
theorem ownFramesParseToTheirEntry : Obligations.OwnFramesParseToTheirEntry := by
  unfold Obligations.OwnFramesParseToTheirEntry
  intro s k inv left
  obtain ⟨config, ⟨sound, -⟩, -, slots, -⟩ := inv
  obtain ⟨⟨-, slots_le⟩, own, -⟩ := config.bounds left
  obtain ⟨class_field, station_field⟩ := keyOctet_fields k.frameClass_lt s.own
  rw [State.frameOf, cells_of_frameOctets]
  refine ⟨sentCells_wellFormed _ (State.bodyOf_length_le slots k), sentCells_good _ _,
    station_field.trans (Nat.mod_eq_of_lt (by omega)), class_field, ?_⟩
  simp only [State.parse_sentCells]
  refine ⟨?_, ?_, ?_, ?_, ?_, ?_, ?_⟩
  · rintro target rfl small
    exact parseExpire_octet slots_le small
  · rintro rfl
    rfl
  · rintro pass rfl
    exact parseJoin_joinBody (config left) pass
  · rintro tag rfl small
    exact parseDrop_octet small
  · rintro tag rfl small busy
    exact State.parse_claim config left slots small busy
  · rintro rfl
    rfl
  · rintro i rfl below inside joiners listed
    exact State.parseCensus_censusBody config left sound below inside joiners listed

end Sys2Proof.Machine
end

section
/-! The lease unit and the own attempt at the end of a TAKEN frame, however it was received (R66 to R74, R111). -/

namespace Sys2Proof.Machine

set_option Elab.async false

/-! ### The end of a TAKEN frame, however it was received (R47, R111) -/

/-- What a station takes from a frame: its content, and from a frame without any nothing, as from a PULSE. -/
def State.readContent (s : State) (c : FrameCells) : Frame :=
  (s.content c).getD .pulse

theorem State.readContent_of_none {s : State} {c : FrameCells} (unread : s.content c = none) : s.readContent c = .pulse := by
  rw [State.readContent, unread, Option.getD_none]

theorem State.readContent_of_some {s : State} {c : FrameCells} {f : Frame} (read : s.content c = some f) :
    s.readContent c = f := by
  rw [State.readContent, read, Option.getD_some]

theorem State.applyTaken_read (s : State) (obs : FrameObs) :
    s.answered.applyTaken (s.ownAttempt obs.cells) obs.cells obs.standing = s.tookEntry obs (s.readContent obs.cells) := by
  cases read : s.content obs.cells with
  | some f => rw [State.readContent_of_some read, State.applyTaken_answered read]
  | none =>
    have unread : s.answered.content obs.cells = none := read
    rw [State.readContent_of_none read]
    simp only [State.applyTaken, unread]
    rfl

theorem State.tookEntry_toEvict {s : State} (inv : s.Inv) (left : s.station ≠ .config) {obs : FrameObs} {f : Frame}
    (config : (s.tookEntry obs f).config = s.config) : (s.tookEntry obs f).toEvict = [] := by
  obtain ⟨-, -, -, evicts, -⟩ := inv.cellInv.config.bounds left
  refine (s.tookEntry_noMisses obs f).toEvict ?_
  have limit : (s.tookEntry obs f).evictAt = s.evictAt := by simp only [State.evictAt, config]
  omega

/-- R71: the lease unit's work, where nobody is evicted. -/
theorem State.leasedAtEnd_read {s : State} {obs : FrameObs} (taken : obs.taken = true)
    (nobody : (s.tookEntry obs (s.readContent obs.cells)).toEvict = []) :
    (s.tookEntry obs (s.readContent obs.cells)).leasedAtEnd s.closeFrame (s.ownAttempt obs.cells) obs =
      s.tookFrame obs (s.readContent obs.cells) := by
  have same : s.closeFrame.content obs.cells = s.content obs.cells := rfl
  unfold State.leasedAtEnd
  simp only [nobody, taken, same, List.isEmpty_nil, Bool.not_true, Bool.and_false, Bool.and_true, Bool.false_eq_true,
    if_true, if_false]
  unfold State.tookFrame
  cases read : s.content obs.cells with
  | none => rw [State.readContent_of_none read]; rfl
  | some f => rw [State.readContent_of_some read]; cases f <;> rfl

theorem State.rosterDetail_read {s : State} {obs : FrameObs} (taken : obs.taken = true)
    (nobody : (s.tookEntry obs (s.readContent obs.cells)).toEvict = []) :
    (s.tookEntry obs (s.readContent obs.cells)).rosterDetail s.closeFrame obs =
      (s.readContent obs.cells).rosterDetail obs.cells.sender := by
  simp only [State.rosterDetail, nobody, taken, if_true]
  cases read : s.content obs.cells with
  | none =>
    have unread : s.closeFrame.content obs.cells = none := read
    rw [State.readContent_of_none read]
    simp only [State.membershipChange, unread]
    rfl
  | some f =>
    rw [State.readContent_of_some read]
    exact State.membershipChange_eq read

/-- R114: no entry stands exhausted after such a frame. -/
theorem State.tookFrame_retries {s : State} (inv : s.Inv) (left : s.station ≠ .config) (obs : FrameObs) (f : Frame) :
    ∀ e ∈ (s.tookFrame obs f).outbound.entries, e.retries < s.retryLimit := by
  obtain ⟨-, -, -, -, retries⟩ := inv.cellInv.config.bounds left
  intro e he
  rcases (s.tookEntry_fails0 obs f).trans (.leaseWork _ _ _ _ _) e he with old | zero
  · exact inv.cellInv.retries e old
  · omega

/-- R53, R114: the rest of such a frame end: no eviction, no self-restart, no exhaustion. -/
theorem State.finishMember_read {s : State} {obs : FrameObs} (inv : s.Inv) (left : s.station ≠ .config)
    (taken : obs.taken = true) (stays : s.readContent obs.cells ≠ .leave ∨ obs.cells.sender ≠ s.own) :
    (s.tookEntry obs (s.readContent obs.cells)).finishMember s.closeFrame (s.ownAttempt obs.cells) obs =
      (s.tookFrame obs (s.readContent obs.cells)).raiseRosterFor
        ((s.readContent obs.cells).rosterDetail obs.cells.sender) := by
  set f := s.readContent obs.cells with hf
  obtain ⟨config, -⟩ := s.tookEntry_station (obs := obs) stays
  have nobody := State.tookEntry_toEvict inv left config
  have frame : s.tookFrame obs f = { s.tookEntry obs f with
      lease := (s.tookFrame obs f).lease
      outbound := (s.tookFrame obs f).outbound } := State.leaseWork_frame _ _ _ _ _
  have same : (s.tookFrame obs f).config = s.config := by rw [frame]; exact config
  have short : ¬(s.tookFrame obs f).evictAt ≤ (s.tookFrame obs f).roster.missesOf (s.tookFrame obs f).own := by
    have limit : (s.tookFrame obs f).evictAt = s.evictAt := by simp only [State.evictAt, same]
    have none_missed : (s.tookFrame obs f).NoMisses := by rw [frame]; exact s.tookEntry_noMisses obs f
    obtain ⟨-, -, -, evicts, -⟩ := inv.cellInv.config.bounds left
    rw [limit, RosterUnit.missesOf_zero none_missed]
    omega
  rw [State.finishMember_eq, State.leasedAtEnd_read taken nobody, ← hf, if_neg short, State.rosterDetail_read taken nobody,
    State.actOnExhaustion_of_lt]
  rw [State.raiseRosterFor_frame]
  intro e he
  change e.retries < (s.tookFrame obs f).config.retry.toNat
  rw [same]
  exact State.tookFrame_retries inv left obs f e he

/-- R47, R109: the attempt of a station that hears another frame is not on the line, and that of one that hears its own is. -/
theorem State.ownAttempt_eq_isSome {s : State} {obs : FrameObs} (who : s.HearsOther obs ∨ ∃ k, s.AttemptRuns obs k) :
    s.ownAttempt obs.cells = s.outbound.onLine.isSome := by
  obtain ⟨idle, -⟩ | ⟨k, sent, key⟩ := who
  · simp [State.ownAttempt, idle]
  · obtain ⟨e, onLine, rfl⟩ := Option.map_eq_some_iff.mp sent
    rw [(s.ownAttempt_iff obs.cells).mpr ⟨e, onLine, key⟩, onLine]
    rfl

/-- R60, R128: nothing precedes the outcome of such a frame. -/
theorem State.settled_of_heard {s : State} {obs : FrameObs} (who : s.HearsOther obs ∨ ∃ k, s.AttemptRuns obs k) :
    (s.clashFound obs.cells).loseUnlessOwn obs.cells = s := by
  have attempt := State.ownAttempt_eq_isSome who
  obtain other | ⟨k, sent, -⟩ := who
  · exact State.settled_of_idle other.1 (State.HearsOther.clashes other)
  · obtain ⟨e, onLine, -⟩ := Option.map_eq_some_iff.mp sent
    rw [onLine, Option.isSome_some] at attempt
    have found : s.clashFound obs.cells = s := by simp [State.clashFound, State.clashes, attempt]
    rw [found, State.loseUnlessOwn, attempt, if_pos rfl]

/-- R47, R51: the end of a TAKEN frame that every member answered, at a SYNCED station that is no leaver. -/
theorem State.exec_frameEnd_read {s : State} {obs : FrameObs} (inv : s.Inv) (synced : s.station = .synced)
    (frame : s.line.tracking = .frame) (taken : obs.taken = true) (everyone : ∀ k ∈ s.roster.roster, k ∈ obs.rollCall)
    (who : s.HearsOther obs ∨ ∃ k, s.AttemptRuns obs k)
    (stays : s.readContent obs.cells ≠ .leave ∨ obs.cells.sender ≠ s.own) :
    exec (.frameEnd obs) s = .next (s.endsTaken obs (s.readContent obs.cells)) := by
  have left : s.station ≠ .config := by simp [synced]
  have tracks := State.tracksCensus_of_member (.inl synced)
  have settled := State.settled_of_heard who
  have closed : s.settledFrame obs.cells = s.closeFrame := congrArg State.closeFrame settled
  have counted : s.closeFrame.countMisses obs.rollCall = s.answered := by
    simp only [State.countMisses, State.closeFrame, RosterUnit.countMisses_answered everyone]
    rfl
  have unparked : (s.tookEntry obs (s.readContent obs.cells)).station ≠ .parked := by
    obtain same | ⟨syncing, -⟩ := (s.tookEntry_station (obs := obs) stays).2
    · simp [same, synced]
    · simp [synced] at syncing
  refine congrArg Host.Outcome.next ?_
  rw [State.frameEnd_eq frame, settled, closed, State.handOn_member (s := s.closeFrame) _ _ tracks, State.memberFrameEnd,
    counted, taken, if_pos rfl, State.applyTaken_read, if_neg unparked, State.finishMember_read inv left taken stays]
  rfl

/-! ### What the content of a frame leaves of the lease unit and the outbound set at a SYNCED station -/

/-- R66, R76: the content of a frame leaves the lease unit of a SYNCED station. -/
theorem State.applyContent_lease {s : State} (synced : s.station = .synced) {sender : Nat} {f : Frame}
    (stays : f ≠ .leave ∨ sender ≠ s.own) (standing : StationSet) : (s.applyContent sender f standing).lease = s.lease := by
  have syncing : s.station ≠ .syncing := by simp [synced]
  rcases s.applyContent_cases sender f standing with ⟨_, -, x⟩ | ⟨p, -, x⟩ | ⟨_, _, _, -, -, x⟩ | ⟨_, -, -, x⟩ |
    ⟨_, -, -, x⟩ | ⟨leave, own, -⟩ | ⟨-, -, x⟩ | x
  · rw [x, State.joinTaken_frame, if_neg syncing]
  · rw [x]
    unfold State.censusTaken
    dsimp only
    rw [if_neg syncing]
    split
    · rfl
    · rw [State.progressChanged_frame]
      exact congrArg (fun w => { s.lease with window := w }) (if_neg syncing)
  · rw [x, State.claimTaken_frame]
  · rw [x, State.dropTaken_frame]
  · rw [x, State.expireTaken_frame]
  · exact absurd own (stays.resolve_left fun c => c leave)
  · rw [x, State.leaveTaken_frame]
  · rw [x]

/-- R104, R118: an outbound set made from another by requests and discards. -/
inductive Outbound.Edits (o : Outbound) : Outbound → Prop
  | refl : o.Edits o
  | request {p : Outbound} (k : EntryKind) : o.Edits p → o.Edits (p.request k)
  | discard {p : Outbound} (gone : EntryKind → Bool) : o.Edits p → o.Edits (p.discard gone)

theorem Outbound.Edits.spent {o p : Outbound} (h : o.Edits p) : p.spent = o.spent := by
  induction h with
  | refl => rfl
  | request k _ ih => exact (Outbound.request_spent _ k).trans ih
  | discard _ _ ih => exact ih

theorem Outbound.Edits.onLine {o p : Outbound} (h : o.Edits p) (idle : ∀ e ∈ o.entries, e.onLine = false) :
    ∀ e ∈ p.entries, e.onLine = false := by
  induction h with
  | refl => exact idle
  | @request p k _ ih =>
    obtain ⟨-, x⟩ | ⟨-, x⟩ := p.request_cases k <;> rw [x]
    · exact ih
    · intro e he
      rcases List.mem_append.mp he with old | new
      · exact ih e old
      · rw [List.mem_singleton.mp new]
        rfl
  | discard gone _ ih => exact fun e he => ih e (List.mem_filter.mp he).1

theorem Outbound.Edits.keepCensusEntry {o : Outbound} {s : State} (h : o.Edits s.outbound) :
    o.Edits s.keepCensusEntry.outbound := by
  unfold State.keepCensusEntry
  split
  · exact h.request _
  · exact h.discard _

theorem Outbound.Edits.progressChanged {o : Outbound} {s : State} (h : o.Edits s.outbound) :
    o.Edits s.progressChanged.outbound := by
  have made : o.Edits (s.discard EntryKind.isCensus).keepCensusEntry.outbound :=
    Outbound.Edits.keepCensusEntry (s := s.discard EntryKind.isCensus) (h.discard _)
  unfold State.progressChanged
  dsimp only
  split
  · exact made.discard _
  · exact made

theorem Outbound.Edits.joinTaken (s : State) (j : Nat) (pass : Bool) (standing : StationSet) :
    s.outbound.Edits (s.joinTaken j pass standing).outbound := by
  unfold State.joinTaken State.resetRun
  dsimp only
  refine .progressChanged ?_
  rw [State.redesignate_outbound]
  dsimp only
  split
  · rw [State.removeRecords_outbound]; exact .refl
  · exact .refl

theorem Outbound.Edits.censusTaken (s : State) (p : Part) : s.outbound.Edits (s.censusTaken p).outbound := by
  unfold State.censusTaken
  dsimp only
  split
  · split
    · exact (Outbound.Edits.refl.discard _).discard EntryKind.isJoin
    · exact Outbound.Edits.refl.discard _
  · exact .progressChanged .refl

theorem Outbound.Edits.slotPlaced {o : Outbound} {s : State} (h : o.Edits s.outbound) (tag : Nat) (p : Placement) :
    o.Edits (s.slotPlaced tag p).outbound := by
  obtain x | x := s.slotPlaced_outbound tag p <;> rw [x]
  · exact h
  · exact h.request _

theorem Outbound.Edits.slotsExpired {o : Outbound} (l : List Nat) {s : State} (h : o.Edits s.outbound) :
    o.Edits (l.foldl State.slotExpired s).outbound := by
  induction l generalizing s with
  | nil => exact h
  | cons k l ih =>
    refine ih ?_
    unfold State.slotExpired
    cases (s.slotAt k).state
    case releasing => exact h.discard fun x => x == .drop k
    case lost => exact h.discard fun x => x == .drop k
    all_goals exact h

theorem Outbound.Edits.leaveTaken (s : State) (sender : Nat) : s.outbound.Edits (s.leaveTaken sender).outbound := by
  unfold State.leaveTaken
  dsimp only
  refine .keepCensusEntry ?_
  rw [State.redesignate_outbound, State.removeRecords_outbound]
  exact .refl

/-- R47: the content of a frame that is not the own LEAVE requests and discards entries. -/
theorem Outbound.Edits.applyContent {s : State} {sender : Nat} {f : Frame} (stays : f ≠ .leave ∨ sender ≠ s.own)
    (standing : StationSet) : s.outbound.Edits (s.applyContent sender f standing).outbound := by
  rcases s.applyContent_cases sender f standing with ⟨_, -, x⟩ | ⟨_, -, x⟩ | ⟨_, _, _, -, -, x⟩ | ⟨_, -, -, x⟩ |
    ⟨_, -, -, x⟩ | ⟨leave, own, -⟩ | ⟨-, -, x⟩ | x
  · rw [x]; exact .joinTaken _ _ _ _
  · rw [x]; exact .censusTaken _ _
  · rw [x]
    unfold State.claimTaken
    dsimp only
    split
    · refine .slotPlaced ?_ _ _
      rw [State.slotsGranted_outbound]; exact .refl
    · rw [State.slotsGranted_outbound]; exact .refl
  · rw [x, State.dropTaken_frame]; exact .refl
  · rw [x]
    unfold State.expireTaken
    dsimp only
    split
    · refine .slotsExpired _ ?_
      rw [State.removeRecords_outbound]; exact .refl
    · rw [State.removeRecords_outbound]; exact .refl
  · exact absurd own (stays.resolve_left fun c => c leave)
  · rw [x]; exact .leaveTaken _ _
  · rw [x]; exact .refl

theorem Outbound.Edits.settleTaken {o : Outbound} {s : State} (h : o.Edits s.outbound) (gone : Option Entry) :
    o.Edits (s.settleTaken gone).outbound := by
  obtain ⟨_, _, -, -, x⟩ | ⟨_, _, -, -, x⟩ | x := s.settleTaken_cases gone <;> rw [x]
  · exact h.keepCensusEntry
  · exact h
  · exact h

/-! ### The station before the lease unit's work -/

theorem State.tookEntry_edits {s : State} {obs : FrameObs} {f : Frame} (stays : f ≠ .leave ∨ obs.cells.sender ≠ s.own) :
    (s.entered obs).outbound.Edits (s.tookEntry obs f).outbound := by
  have content : (s.entered obs).outbound.Edits (s.tookContent obs f).outbound :=
    .applyContent (by rwa [State.entered_own_number]) _
  unfold State.tookEntry
  split
  · exact content.settleTaken _
  · exact content

theorem State.tookEntry_lease {s : State} (synced : s.station = .synced) {obs : FrameObs} {f : Frame}
    (stays : f ≠ .leave ∨ obs.cells.sender ≠ s.own) : (s.tookEntry obs f).lease = s.lease := by
  rw [State.tookEntry_frame]
  refine (State.applyContent_lease ((s.entered_station obs).trans synced) (by rwa [State.entered_own_number]) _).trans ?_
  rw [State.entered_frame]
  rfl

/-- R111, R134: with its own attempt on the line, a station settles what the entry leaves behind. -/
theorem State.tookEntry_of_attempt {s : State} {obs : FrameObs} (attempt : s.ownAttempt obs.cells = true) (f : Frame) :
    s.tookEntry obs f = (s.tookContent obs f).settleTaken s.outbound.onLine := by
  rw [State.tookEntry, attempt, if_pos rfl]

theorem State.entered_of_attempt {s : State} {obs : FrameObs} (attempt : s.ownAttempt obs.cells = true) {e : Entry}
    (sent : s.outbound.onLine = some e) :
    (s.entered obs).outbound =
      { entries := s.outbound.entries.filter fun x => !x.onLine
        spent := s.outbound.spent || decide (4 ≤ e.kind.frameClass)
        sending := [] } := by
  rw [State.entered, attempt]
  exact State.entryTaken_own (s := s.answered) sent

/-- R134: the slot of a CLAIM that left the line is drop-wanted no more. -/
theorem State.tookEntry_claim_slot {s : State} {obs : FrameObs} (attempt : s.ownAttempt obs.cells = true) {e : Entry}
    (sent : s.outbound.onLine = some e) {k : Nat} (claim : e.kind = .claim k) (f : Frame) :
    ((s.tookEntry obs f).slotAt k).dropWanted = false := by
  have settled : s.tookEntry obs f = (s.tookContent obs f).updateSlot k fun b => { b with dropWanted := false } := by
    rw [State.tookEntry_of_attempt attempt, sent]
    simp [State.settleTaken, claim]
  rw [settled, State.slotAt_updateSlot]
  split
  · rfl
  · rename_i outside
    have beyond : (s.tookContent obs f).slots.length ≤ k := Nat.le_of_not_lt fun c => outside ⟨rfl, c⟩
    rw [State.slotAt, List.getD_eq_getElem?_getD, List.getElem?_eq_none beyond]
    rfl

/-- R87: an own frame of which nothing was read leaves, unless it is a CENSUS part, the entries that it found held. -/
theorem State.tookEntry_pulse_outbound {s : State} {obs : FrameObs} (attempt : s.ownAttempt obs.cells = true) {e : Entry}
    (sent : s.outbound.onLine = some e) (other : e.kind.isCensus = false) :
    (s.tookEntry obs .pulse).outbound = (s.entered obs).outbound := by
  rw [State.tookEntry_of_attempt attempt, sent]
  change ((s.entered obs).settleTaken (some e)).outbound = _
  obtain ⟨_, i, x, part, -⟩ | ⟨_, _, -, -, x⟩ | x := (s.entered obs).settleTaken_cases (some e)
  · obtain rfl := Option.some.inj x
    rw [part] at other
    contradiction
  · rw [x]; rfl
  · rw [x]

/-! ### The lease unit's work (R66 to R74) -/

theorem State.leaseWork_lease (renewed expired : Option Nat) (own frozen : Bool) (s : State) :
    (s.leaseWork renewed expired own frozen).lease =
      (({ s with lease := { s.lease with leases := s.leasesAfter renewed } }).ownTimersAfter own).lease := by
  by_cases h : s.Defers frozen
  · rw [State.leaseWork_of_defers h, State.enterDeferred, State.requests_frame]
    rfl
  · rw [State.leaseWork_of_not_defers h]
    rfl

theorem State.leaseWork_durations (renewed expired : Option Nat) (own frozen : Bool) (s : State) :
    (s.leaseWork renewed expired own frozen).lease.durations = s.lease.durations := by
  rw [State.leaseWork_lease]
  obtain ⟨_, h⟩ | ⟨_, _, h⟩ | ⟨_, _, _, h⟩ :=
    State.ownTimersAfter_cases own { s with lease := { s.lease with leases := s.leasesAfter renewed } } <;> rw [h]

/-- R72, R74: without own records the own timers are inactive. -/
theorem State.ownTimers_inactive {s : State} (nothing : s.table.countOf s.own = 0) (own : Bool) :
    (s.ownTimersAfter own).lease.pulse = .inactive ∧ (s.ownTimersAfter own).lease.selfGuard = .inactive := by
  rw [State.ownTimersAfter, if_pos nothing]
  exact ⟨rfl, rfl⟩

/-- R72, R74: with own records an own frame, and their coming, set the own timers running. -/
theorem State.ownTimers_running {s : State} (owns : s.table.countOf s.own ≠ 0) {own : Bool}
    (starts : own = true ∨ s.lease.selfGuard = .inactive) :
    (s.ownTimersAfter own).lease.pulse = .running s.durations.pulse ∧
      (s.ownTimersAfter own).lease.selfGuard = .running s.durations.selfGuard := by
  rw [State.ownTimersAfter, if_neg owns, if_pos starts]
  exact ⟨rfl, rfl⟩

/-- R72, R74: otherwise the own timers stay. -/
theorem State.ownTimers_kept {s : State} (owns : s.table.countOf s.own ≠ 0) (runs : s.lease.selfGuard ≠ .inactive) :
    s.ownTimersAfter false = s := by
  rw [State.ownTimersAfter, if_neg owns, if_neg (by simpa using runs)]

/-- R71, R72, R74: the own timers after the lease unit's work. -/
theorem State.leaseWork_ownTimers (renewed expired : Option Nat) (own frozen : Bool) (s : State) :
    let l := (s.leaseWork renewed expired own frozen).lease
    (s.table.countOf s.own = 0 → l.pulse = .inactive ∧ l.selfGuard = .inactive) ∧
      (s.table.countOf s.own ≠ 0 → own = true ∨ s.lease.selfGuard = .inactive →
        l.pulse = .running s.durations.pulse ∧ l.selfGuard = .running s.durations.selfGuard) ∧
      (s.table.countOf s.own ≠ 0 → own = false → s.lease.selfGuard ≠ .inactive →
        l.pulse = s.lease.pulse ∧ l.selfGuard = s.lease.selfGuard) := by
  set u : State := { s with lease := { s.lease with leases := s.leasesAfter renewed } } with hu
  have lease : (s.leaseWork renewed expired own frozen).lease = (u.ownTimersAfter own).lease :=
    State.leaseWork_lease _ _ _ _ _
  dsimp only
  rw [lease]
  refine ⟨fun nothing => State.ownTimers_inactive (s := u) nothing own,
    fun owns starts => State.ownTimers_running (s := u) owns starts, ?_⟩
  rintro owns rfl runs
  rw [State.ownTimers_kept (s := u) owns runs]
  exact ⟨rfl, rfl⟩

/-- R70: what a list of EXPIRE requests leaves. -/
theorem State.mem_requests {l : List Lease} {s : State} {e : Entry}
    (held : e ∈ (l.foldl (fun u x => u.request (.expire x.peer)) s).outbound.entries) :
    e ∈ s.outbound.entries ∨ ∃ x ∈ l, e = Entry.fresh (.expire x.peer) := by
  induction l generalizing s with
  | nil => exact .inl held
  | cons x l ih =>
    rcases ih held with old | ⟨y, hy, new⟩
    · rw [State.request_outbound] at old
      obtain ⟨-, h⟩ | ⟨-, h⟩ := s.outbound.request_cases (.expire x.peer) <;> rw [h] at old
      · exact .inl old
      · exact (List.mem_append.mp old).imp_right fun last => ⟨x, List.mem_cons_self, List.mem_singleton.mp last⟩
    · exact .inr ⟨y, List.mem_cons_of_mem _ hy, new⟩

/-- R66, R67: a lease that stands reached after a frame end is that of a peer with records that did not send the frame. -/
theorem State.reached_leasesAfter {s : State} {j : Nat} {x : Lease} (held : x ∈ s.leasesAfter (some j))
    (reached : x.timer = .reached) : x.peer ≠ j ∧ 0 < s.table.countOf x.peer := by
  obtain ⟨k, hk, rfl⟩ := List.mem_map.mp held
  obtain ⟨-, owns⟩ := mem_setOf.mp hk
  simp only [Bool.and_eq_true, decide_eq_true_eq] at owns
  refine ⟨fun sends => ?_, owns.2⟩
  have sends : k = j := sends
  simp [State.leaseAfter, sends] at reached

/-- R69, R70, R73: an entry after the lease unit's work stood before and is not moot, or is the EXPIRE entry of a peer with
records that did not send the frame, entered at the end of the freeze. -/
theorem State.entry_of_leaseWork {s : State} {j : Nat} {expired : Option Nat} {own frozen : Bool} {e : Entry}
    (held : e ∈ (s.leaseWork (some j) expired own frozen).outbound.entries) :
    (e ∈ s.outbound.entries ∧ s.mootAtEnd (some j) expired own e.kind = false) ∨
      (s.Defers frozen ∧ ∃ k, e = Entry.fresh (.expire k) ∧ k ≠ j ∧ 0 < s.table.countOf k) := by
  have kept : ∀ e ∈ ((({ s with lease := { s.lease with leases := s.leasesAfter (some j) } }).ownTimersAfter own).discard
      (s.mootAtEnd (some j) expired own)).outbound.entries,
      e ∈ s.outbound.entries ∧ s.mootAtEnd (some j) expired own e.kind = false := fun e he => by
    rw [State.discard_outbound, Outbound.discard_entries, State.ownTimersAfter_outbound] at he
    simpa using List.mem_filter.mp he
  by_cases h : s.Defers frozen
  · rw [State.leaseWork_of_defers h] at held
    rcases State.mem_requests held with old | ⟨x, hx, new⟩
    · exact .inl (kept e old)
    · obtain ⟨listed, reached⟩ := List.mem_filter.mp hx
      have leases := State.leaseWork_leases (some j) expired own false s
      rw [State.leaseWork_lease] at leases
      have listed : x ∈ s.leasesAfter (some j) := leases ▸ listed
      exact .inr ⟨h, x.peer, new, State.reached_leasesAfter listed (by simpa using reached)⟩
  · rw [State.leaseWork_of_not_defers h] at held
    exact .inl (kept e held)

/-- R73: no PULSE entry after an own frame, or without own records. -/
theorem State.leaseWork_no_pulse {s : State} {j : Nat} {expired : Option Nat} {own frozen : Bool}
    (gone : own = true ∨ s.table.countOf s.own = 0) :
    ∀ e ∈ (s.leaseWork (some j) expired own frozen).outbound.entries, e.kind ≠ .pulse := by
  intro e he pulse
  rcases State.entry_of_leaseWork he with ⟨-, kept⟩ | ⟨-, k, rfl, -⟩
  · rw [pulse] at kept
    rcases gone with x | x <;> simp [State.mootAtEnd, x] at kept
  · contradiction

/-- R69, R70: an EXPIRE entry names a peer with records that did not send the frame. -/
theorem State.leaseWork_expire {s : State} {j : Nat} {expired : Option Nat} {own frozen : Bool} {e : Entry} {k : Nat}
    (held : e ∈ (s.leaseWork (some j) expired own frozen).outbound.entries) (expires : e.kind = .expire k) :
    k ≠ j ∧ 0 < s.table.countOf k := by
  rcases State.entry_of_leaseWork held with ⟨-, kept⟩ | ⟨-, k', rfl, other, owns⟩
  · rw [expires] at kept
    simp only [State.mootAtEnd, State.expireMoot, Bool.or_eq_false_iff, beq_eq_false_iff_ne, decide_eq_false_iff_not] at kept
    obtain ⟨⟨⟨other, -⟩, owns⟩, -⟩ := kept
    exact ⟨fun c => other (congrArg some c.symm), Nat.pos_of_ne_zero owns⟩
  · obtain rfl := EntryKind.expire.inj expires
    exact ⟨other, owns⟩

/-- R66, R67: the lease of a station number after the lease unit's work. -/
theorem State.leaseWork_lease_cases (s : State) (j : Nat) (expired : Option Nat) (own frozen : Bool) (k : Nat) :
    (s.leaseWork (some j) expired own frozen).lease.leaseOf k =
      if 32 ≤ k ∨ k = s.own ∨ (∀ r ∈ s.table.requests, r.owner ≠ k) then .inactive
      else if k = j ∨ s.lease.leaseOf k = .inactive then .running s.durations.lease
      else s.lease.leaseOf k := by
  have owns := s.table.countOf_pos k
  rw [State.leaseWork_leaseOf]
  by_cases without : 32 ≤ k ∨ k = s.own ∨ (∀ r ∈ s.table.requests, r.owner ≠ k)
  · rw [if_pos without, if_neg]
    rintro ⟨small, other, some_record⟩
    obtain ⟨r, hr, owner⟩ := owns.mp some_record
    rcases without with large | same | no_record
    · exact absurd small (Nat.not_lt.mpr large)
    · exact other same
    · exact no_record r hr owner
  · rw [if_neg without]
    push Not at without
    obtain ⟨small, other, r, hr, owner⟩ := without
    rw [if_pos ⟨small, other, owns.mpr ⟨r, hr, owner⟩⟩, State.leaseAfter]
    simp only [Option.some.injEq, eq_comm (a := j)]

/-! ### The obligation -/

/-- R100: what is read of a frame that is not the own LEAVE keeps the station in the cell. -/
theorem State.readContent_stays {s : State} {c : FrameCells}
    (notLeave : c.sender = s.own → c.reception = .good → s.parse c ≠ some .leave) :
    s.readContent c ≠ .leave ∨ c.sender ≠ s.own := by
  refine or_iff_not_imp_right.mpr fun own leave => ?_
  cases read : s.content c with
  | none =>
    rw [State.readContent_of_none read] at leave
    contradiction
  | some f =>
    rw [State.readContent_of_some read] at leave
    obtain ⟨good, parsed⟩ := State.content_eq_some.mp read
    exact notLeave (not_not.mp own) good (leave ▸ parsed)

/-- R111, R117, R134: what an own TAKEN frame leaves of its attempt. -/
theorem State.tookFrame_attempt {s : State} {obs : FrameObs} (inv : s.Inv) (attempt : s.ownAttempt obs.cells = true)
    (stays : s.readContent obs.cells ≠ .leave ∨ obs.cells.sender ≠ s.own) {e : Entry} (sent : s.outbound.onLine = some e) :
    let u := s.tookFrame obs (s.readContent obs.cells)
    u.outbound.onLine = none ∧ u.outbound.spent = (s.outbound.spent || decide (4 ≤ e.kind.frameClass)) ∧
      (obs.cells.reception = .error → e.kind.isCensus = false → ∀ x ∈ u.outbound.entries, x.kind ≠ e.kind) := by
  have entered := State.entered_of_attempt attempt sent
  have edits := State.tookEntry_edits stays
  have idle : ∀ x ∈ (s.entered obs).outbound.entries, x.onLine = false := fun x hx => by
    rw [entered] at hx
    simpa using (List.mem_filter.mp hx).2
  refine ⟨?_, ?_, fun error other x hx same => ?_⟩
  · refine List.find?_eq_none.mpr fun x hx => ?_
    rcases State.entry_of_leaseWork hx with ⟨held, -⟩ | ⟨-, k, rfl, -⟩
    · simp [edits.onLine idle x held]
    · simp [Entry.fresh]
  · refine (State.leaseWork_spent _ _ _ _ _).trans (edits.spent.trans ?_)
    rw [entered]
  · have unread : s.readContent obs.cells = .pulse :=
      State.readContent_of_none (by simp [State.content, error])
    rw [unread] at hx
    have census : (s.tookEntry obs .pulse).census = s.census := by
      rw [State.tookEntry_frame]
      change (s.entered obs).census = s.census
      rw [State.entered_frame]
      rfl
    rcases State.entry_of_leaseWork hx with ⟨held, -⟩ | ⟨defers, -⟩
    · rw [State.tookEntry_pulse_outbound attempt sent other, State.entered, attempt] at held
      obtain ⟨-, -, -, -, outbound, -⟩ := inv
      have apart := State.OutboundFits.entryTaken_not_answers (s := s.answered) outbound sent x held
      rw [same, EntryKind.answers_self] at apart
      contradiction
    · exact State.not_defers_of_census census defers

/-- Settles O54: the frame end is `endsTaken` for what was read of the frame; the leases are by `leaseWork_lease_cases`, the
own timers by `leaseWork_ownTimers`, the entries by `entry_of_leaseWork` and the own attempt by `tookFrame_attempt`. -/
theorem leaseUnitAtTakenFrameEnd : Obligations.LeaseUnitAtTakenFrameEnd := by
  unfold Obligations.LeaseUnitAtTakenFrameEnd
  intro obs s inv synced frame taken everyone who notLeave
  have stays := State.readContent_stays notLeave
  have run := State.exec_frameEnd_read inv synced frame taken everyone who stays
  have attempt := State.ownAttempt_eq_isSome who
  set f := s.readContent obs.cells with hf
  set w := s.tookEntry obs f with hw
  obtain ⟨config, station⟩ := s.tookEntry_station (obs := obs) stays
  have number : w.own = s.own := congrArg (·.station.toNat) config
  have lease : w.lease = s.lease := State.tookEntry_lease synced stays
  have durations : w.durations = s.durations := by rw [State.durations, lease]; rfl
  have sent_iff : s.outbound.onLine ≠ none ↔ s.ownAttempt obs.cells = true := by
    rw [attempt, Option.isSome_iff_ne_none]
  have whole : s.endsTaken obs f = { w with
      outbound := (s.tookFrame obs f).outbound
      lease := (s.tookFrame obs f).lease
      attention := (s.endsTaken obs f).attention } := by
    rw [State.endsTaken_frame, hw, State.tookEntry_frame]
  obtain ⟨inactive, running, kept⟩ :=
    State.leaseWork_ownTimers (some obs.cells.sender) f.expires (s.ownAttempt obs.cells) s.census.freeze w
  have records : w.table.countOf w.own = 0 ↔ ∀ r ∈ w.table.requests, r.owner ≠ s.own := by
    rw [number, Table.countOf, List.length_eq_zero_iff, List.filter_eq_nil_iff]
    simp
  rw [durations, lease] at running
  rw [lease] at kept
  refine ⟨_, run, ?_⟩
  rw [whole]
  refine ⟨?_, fun k => ?_, fun nothing => ?_, fun owns => ⟨fun starts => ?_, fun idle runs => ?_⟩, fun sent => ?_,
    fun e sent => ?_, fun e he k expires => ?_, ?_, ?_⟩
  · exact station.elim (·.trans synced) And.right
  · refine (w.leaseWork_lease_cases _ _ _ _ k).trans ?_
    rw [number, lease, durations]
  · have none_left := records.mpr nothing
    obtain ⟨pulse, guard⟩ := inactive none_left
    exact ⟨pulse, guard, State.leaseWork_no_pulse (.inr none_left)⟩
  · exact running (fun c => by obtain ⟨r, hr, owner⟩ := owns; exact records.mp c r hr owner) (starts.imp_left sent_iff.mp)
  · refine kept (fun c => by obtain ⟨r, hr, owner⟩ := owns; exact records.mp c r hr owner) ?_ runs
    rw [attempt, idle]
    rfl
  · exact State.leaseWork_no_pulse (.inl (sent_iff.mp sent))
  · have own := sent_iff.mp (by rw [sent]; simp)
    obtain ⟨gone, spent, left⟩ := State.tookFrame_attempt inv own stays sent
    exact ⟨gone, spent, fun k claim => State.tookEntry_claim_slot own sent claim f, left⟩
  · obtain ⟨other, owns⟩ := State.leaseWork_expire he expires
    exact ⟨other, (Table.countOf_pos _ _).mp owns⟩
  · exact (State.leaseWork_durations _ _ _ _ w).trans (congrArg LeaseUnit.durations lease)
  · exact (State.leaseWork_window _ _ _ _ w).trans (congrArg LeaseUnit.window lease)

end Sys2Proof.Machine
end

section
namespace Sys2Proof.Machine

set_option Elab.async false

/-! ### The step of RosterAndCensusKept at a frame counted past its end

As with `overrunStation`: at the place where the standing call of a JOIN ends, `State.phaseBit` ends a frame of any class and
`State.ending` a JOIN alone, so that `State.SoundStep` says nothing of this frame end. Here it ends a LEAVE that the freeze
forbids (R41) and that no undisturbed sample lets be TAKEN. -/

/-- A LEAVE of station 5, received GOOD and TAKEN, counted on to the place where the standing call of a JOIN ends in a cell of
8 roster slots. -/
def overrunLeaveRx : Rx :=
  { overrunRx with position := 10 * 4 + 3 + 2 * 8, octets := [0x25, 0, 0xB6, 0xB5], rollCall := [3, 5] }

/-- Station 3 of `overrunStation`, SYNCED and designated under the freeze that the JOIN of station 5 brought. -/
def overrunFrozenStation : State :=
  { overrunStation with
    roster := { members := [{ number := 3, misses := 0 }, { number := 5, misses := 0 }], synced := [3], clash := false }
    census := { Census.cleared with joiners := [5], designated := some 3 }
    line := { overrunStation.line with rx := some overrunLeaveRx } }

theorem overrunFrozenStation_inv : overrunFrozenStation.Inv :=
  ⟨by decide +kernel, by decide +kernel, by decide +kernel, by decide +kernel, by decide +kernel, by decide +kernel,
    by decide +kernel, by decide +kernel, by decide +kernel, by decide +kernel⟩

theorem overrunFrozenStation_soundStep : overrunFrozenStation.SoundStep overrunFrozenStation.clock := by
  have none_ends : overrunFrozenStation.ending overrunFrozenStation.clock = none := by decide +kernel
  exact ⟨fun obs h => by simp [none_ends] at h, fun h => absurd h (by decide)⟩

/-- The step takes station 5 out of the roster and leaves it in the joiners set. -/
theorem overrunFrozenStation_clock_joiner :
    5 ∈ overrunFrozenStation.clock.census.joiners ∧ overrunFrozenStation.clock.isMember 5 = false := by
  decide +kernel

/-- Refutes O59: a state that meets every premise and whose next CLKIN cycle leaves a joiner that is no member. -/
theorem not_rosterAndCensusKept : ¬ Obligations.RosterAndCensusKept := by
  unfold Obligations.RosterAndCensusKept
  intro h
  obtain ⟨joiner, stranger⟩ := overrunFrozenStation_clock_joiner
  have kept := h overrunFrozenStation overrunFrozenStation.clock overrunFrozenStation_inv rfl
  have members := (kept.2.2 (by decide +kernel) overrunFrozenStation_soundStep).1 5 joiner
  exact Bool.false_ne_true (stranger.symm.trans members)

end Sys2Proof.Machine
end

section
/-! The identity clash and its halt (R38, R60, R61, R113, R177). -/

namespace Sys2Proof.Machine

set_option Elab.async false

/-! ### The clash (R60) -/

theorem StationState.mayDrive_iff (x : StationState) :
    x.mayDrive = true ↔ x = .joining ∨ x = .syncing ∨ x = .synced := by
  simp [StationState.mayDrive, or_assoc]

theorem State.gaveUpAttempt_iff (s : State) :
    s.gaveUpAttempt = true ↔ ∃ j, s.judgement = some j ∧ j.abandoned = true := by
  simp [State.gaveUpAttempt, Option.any_eq_true]

/-- R60: the two cases of a clash. -/
theorem State.clashes_iff (s : State) (c : FrameCells) :
    s.clashes c = true ↔ (s.station = .joining ∨ s.station = .syncing ∨ s.station = .synced) ∧ c.reception = .good ∧
      s.ownAttempt c = false ∧ (c.sender = s.own ∨ ∃ j, s.judgement = some j ∧ j.abandoned = true) := by
  rw [← s.gaveUpAttempt_iff, ← StationState.mayDrive_iff]
  simp [State.clashes, and_assoc]

/-- R61: the clash is looked for in a frame that is followed. -/
theorem State.identityClash_of_clashes {s : State} {c : FrameCells} (frame : s.line.tracking = .frame)
    (clash : s.clashes c = true) : s.identityClash c = (s.endAttempt false).halt .clash := by
  rw [State.identityClash, if_pos frame, State.clashFound, if_pos clash]

theorem State.identityClash_of_not_clashes {s : State} {c : FrameCells}
    (calm : s.line.tracking = .frame → s.clashes c = false) : s.identityClash c = s := by
  unfold State.identityClash
  split
  · rename_i frame
    rw [State.clashFound, calm frame, if_neg Bool.false_ne_true]
  · rfl

theorem State.ownAttempt_of_idle {s : State} (idle : s.outbound.onLine = none) (c : FrameCells) : s.ownAttempt c = false := by
  simp [State.ownAttempt, idle]

/-! ### The attempt that ends before the halt (R109, R110, R177) -/

/-- R109, R110: after the end of an attempt no withdrawal waits. -/
theorem State.OutboundFits.endAttempt_not_withdrawn {s : State} (fits : s.OutboundFits) (counted : Bool) :
    ∀ x ∈ (s.endAttempt counted).outbound.entries, x.withdrawn = false := by
  obtain ⟨-, -, waits, -⟩ := id fits
  have off : ∀ y ∈ s.outbound.entries, y.onLine = false → y.withdrawn = false := fun y hy off => by
    by_contra w
    rw [waits y hy (by simpa using w)] at off
    contradiction
  intro x hx
  obtain ⟨idle, same⟩ | ⟨e, -, -, same⟩ | ⟨e, sent, stays, -⟩ := s.endAttempt_cases counted
  · rw [same] at hx
    exact off x hx (by simpa using List.find?_eq_none.mp idle x hx)
  · rw [same, State.settleDropWanted_outbound] at hx
    obtain ⟨held, rest⟩ := List.mem_filter.mp hx
    exact off x held (by simpa using rest)
  · rw [State.endAttempt_returned sent stays] at hx
    obtain ⟨y, hy, rfl⟩ := List.mem_map.mp hx
    cases on : y.onLine
    · simpa [Entry.returned, on] using off y hy on
    · obtain rfl := fits.eq_of_onLine sent hy on
      simpa [Entry.returned, on] using stays

/-- R119, R177: the halt leaves the entries that are no JOIN, and puts none on the line. -/
theorem State.halt_onLine {s : State} (idle : s.outbound.onLine = none) (cause : HaltCause) :
    (s.halt cause).outbound.onLine = none := by
  rw [Outbound.onLine, List.find?_eq_none] at idle ⊢
  exact fun x hx => idle x (List.mem_filter.mp hx).1

/-- R61, R119, R177: what the halt at a clash leaves but for the outbound set and the slots. -/
theorem State.clashHalt_frame (s : State) :
    (s.endAttempt false).halt .clash = { s with
      station := .halted
      roster := { s.roster with clash := true }
      attention := { s.attention with halt := { pending := true, detail := 1 } }
      line := { s.line with ltx := .rest }
      census := { s.census with staging := [] }
      lease := { s.lease with leases := [], pulse := .inactive, window := .inactive }
      outbound := ((s.endAttempt false).halt .clash).outbound
      slots := ((s.endAttempt false).halt .clash).slots } := by
  rw [State.endAttempt_frame]
  simp [State.halt, State.raiseHalt, Source.raised, HaltCause.code]

/-! ### The bit error before the clash (R38, R113) -/

/-- R113, R129: a bit error that exhausts nothing ends the attempt and marks the judgement. -/
theorem State.bitError_of_short {s : State} (fits : s.OutboundFits) (frame : s.line.tracking = .frame) {e : Entry}
    (sent : s.outbound.onLine = some e) (short : e.withdrawn = true ∨ e.retries + 1 < s.retryLimit) :
    s.bitError = ((s.endAttempt true).stopDriving).markAbandoned := by
  rw [State.bitError, if_pos ⟨frame, by rw [sent]; rfl⟩]
  refine State.actOnExhaustion_of_lt ?_
  have limit : (((s.endAttempt true).stopDriving).markAbandoned).retryLimit = s.retryLimit := by
    rw [State.endAttempt_frame]
    rfl
  rw [limit]
  refine fits.endAttempt_retries fun x on => ?_
  obtain rfl := Option.some.inj (sent.symm.trans on)
  exact short

/-- R38, R60: after such a bit error any frame received GOOD is a clash. -/
theorem State.clashes_after_bitError {s : State} (drives : s.station = .joining ∨ s.station = .syncing ∨ s.station = .synced)
    (judged : s.judgement ≠ none) {c : FrameCells} (good : c.reception = .good) :
    (((s.endAttempt true).stopDriving).markAbandoned).clashes c = true := by
  obtain ⟨j, opened⟩ := Option.ne_none_iff_exists'.mp judged
  have frame := s.endAttempt_frame true
  refine (State.clashes_iff _ c).mpr ⟨?_, good, State.ownAttempt_of_idle (s.endAttempt_onLine true) c,
    .inr ⟨{ j with abandoned := true }, ?_, rfl⟩⟩
  · rw [frame]
    exact drives
  · rw [frame]
    exact congrArg (Option.map fun j : Judgement => { j with abandoned := true }) opened

/-! ### The obligation -/

/-- Settles O37: the clash test by `clashes_iff`, the halt after the end of an attempt still on the line, and the bit error
before it by `bitError_of_short`. -/
theorem clashHaltsTheStation : Obligations.ClashHaltsTheStation := by
  unfold Obligations.ClashHaltsTheStation
  intro c s drives clash
  have clash_iff : clash ↔ s.line.tracking = .frame ∧ s.clashes c = true := and_congr_right fun _ => (s.clashes_iff c).symm
  refine ⟨fun h => ?_, fun e fits frame may judged sent short good => ?_, fun calm => ?_⟩
  · obtain ⟨frame, clashes⟩ := clash_iff.mp h
    have whole := s.clashHalt_frame
    refine ⟨_, congrArg Host.Outcome.next (State.identityClash_of_clashes frame clashes), rfl, congrArg State.roster whole,
      congrArg State.attention whole, congrArg State.line whole, (congrArg State.table whole :), congrArg State.census whole,
      congrArg State.lease whole, (congrArg State.judgement whole :), fun b hb => ?_, fun idle => ?_,
      fun fits _ => ⟨State.halt_onLine (s.endAttempt_onLine false) _, fun x hx => ?_⟩⟩
    · obtain ⟨b', -, rfl⟩ := List.mem_map.mp hb
      rfl
    · have same : s.endAttempt false = s := by simp [State.endAttempt, idle]
      rw [same]
      exact ⟨rfl, rfl⟩
    · obtain ⟨held, other⟩ := List.mem_filter.mp hx
      exact ⟨by simpa using other, fits.endAttempt_not_withdrawn false x held⟩
  · have clashes := State.clashes_after_bitError may judged good
    have following : (((s.endAttempt true).stopDriving).markAbandoned).line.tracking = .frame := by
      rw [State.endAttempt_frame]
      exact frame
    exact ⟨_, _, congrArg Host.Outcome.next (State.bitError_of_short fits frame sent short),
      congrArg Host.Outcome.next (State.identityClash_of_clashes following clashes), rfl,
      congrArg (fun t : State => t.roster.clash) (State.clashHalt_frame _), rfl⟩
  · refine congrArg Host.Outcome.next (State.identityClash_of_not_clashes fun frame => ?_)
    by_contra on
    exact calm (clash_iff.mpr ⟨frame, by simpa using on⟩)

end Sys2Proof.Machine
end

section
/-! The own JOIN taken at a JOINING station (R55, R62, R80, R84, R87, R111, R169). -/

namespace Sys2Proof.Machine

set_option Elab.async false

/-! ### The entry order when progress changes (R76, R87, R94) -/

/-- R76, R87, R94: the entries that a change of census progress withdraws: CENSUS, and at a SYNCING station JOIN. -/
def State.restartsKind (s : State) (k : EntryKind) : Bool :=
  k.isCensus || (s.station == .syncing && k.isJoin)

/-- R87: where no CENSUS entry is held, the one that is owed is entered last. -/
theorem State.keepCensusEntry_entries {s : State} (nobody : ∀ e ∈ s.outbound.entries, e.kind.isCensus = false) :
    s.keepCensusEntry.outbound.entries = s.outbound.entries ++ s.duePart := by
  unfold State.keepCensusEntry State.duePart
  split
  · have unheld : s.outbound.holds (.census s.census.progress) = false := by
      refine List.any_eq_false.mpr fun e he => ?_
      rw [EntryKind.isCensus_of_answers, nobody e he]
      exact Bool.false_ne_true
    rw [State.request_outbound, Outbound.request, unheld, if_neg Bool.false_ne_true]
  · rw [State.discard_outbound, Outbound.discard_entries, List.append_nil, List.filter_eq_self]
    exact fun e he => by simp [nobody e he]

/-- R76, R87, R94: the entry order after a change of progress. -/
theorem State.progressChanged_entries (s : State) :
    s.progressChanged.outbound.entries =
      (s.outbound.entries.filter fun e => !s.restartsKind e.kind) ++ s.duePart := by
  have made : (s.discard EntryKind.isCensus).keepCensusEntry.outbound.entries =
      (s.outbound.entries.filter fun e => !e.kind.isCensus) ++ s.duePart :=
    State.keepCensusEntry_entries fun e he => by simpa using (List.mem_filter.mp he).2
  have no_join : s.duePart.filter (fun e => !e.kind.isJoin) = s.duePart := by
    unfold State.duePart
    split <;> rfl
  unfold State.progressChanged State.restartsKind
  split
  · rename_i syncing
    dsimp only
    rw [State.discard_outbound, Outbound.discard_entries, made, List.filter_append, List.filter_filter, no_join]
    simp [syncing, Bool.and_comm]
  · rename_i other
    have off : (s.station == .syncing) = false := by simpa using other
    simp [made, off]

theorem State.resetRun_entries (s : State) :
    s.resetRun.outbound.entries =
      (s.outbound.entries.filter fun e => !s.restartsKind e.kind) ++
        if s.resetRun.census.freeze = true ∧ s.resetRun.census.designated = some s.own then [Entry.fresh (.census 0)]
        else [] := by
  have parts := s.resetRun_parts
  unfold State.resetRun at parts ⊢
  rw [State.progressChanged_parts] at parts
  rw [State.progressChanged_entries, parts, State.redesignate_eq]
  rfl

theorem State.resetRun_spent (s : State) : s.resetRun.outbound.spent = s.outbound.spent := by
  unfold State.resetRun
  rw [State.progressChanged_spent, State.redesignate_outbound]

/-! ### What a JOINING station learns (R55) -/

theorem StationSet.listed_setInsert (k : Nat) (a : StationSet) : StationSet.Listed (setInsert k a) :=
  StationSet.listed_setOf _

theorem RosterUnit.learned_roster (own : Nat) (rollCall standing : StationSet) (clash : Bool) :
    (RosterUnit.learned own rollCall standing clash).roster = setInsert own rollCall := by
  simp [RosterUnit.learned, RosterUnit.roster, Function.comp_def]

theorem RosterUnit.learned_eq (own : Nat) (rollCall standing : StationSet) (clash : Bool) :
    RosterUnit.learned own rollCall standing clash =
      { members := (setInsert own rollCall).map fun k => { number := k, misses := 0 }
        synced := (setInsert own rollCall).filter fun j => standing.contains j
        clash := clash } := by
  rw [RosterUnit.learned, setInter_of_listed (StationSet.listed_setInsert _ _)]

theorem RosterUnit.learned_owed (own : Nat) (rollCall standing : StationSet) (clash : Bool) :
    (RosterUnit.learned own rollCall standing clash).owed =
      (setInsert own rollCall).filter fun j => !((setInsert own rollCall).filter fun j => standing.contains j).contains j := by
  rw [RosterUnit.owed, RosterUnit.learned_roster, setDiff_of_listed (StationSet.listed_setInsert _ _),
    RosterUnit.learned_eq]

/-- R82, R84: where no station is passed over, the lowest of the pool is designated, and none without the freeze. -/
theorem Census.redesignated_of_no_passOver {c : Census} {roster synced : StationSet} (nobody : c.passOver = [])
    (listed : StationSet.Listed roster) (listed' : StationSet.Listed synced) :
    c.redesignated roster synced =
      { c with designated := if c.joiners = [] then none else (if synced = [] then roster else synced).head? } := by
  cases freeze : c.freeze
  · rw [Census.redesignated_of_open freeze, if_pos (Census.freeze_eq_false.mp freeze)]
  · rw [Census.redesignated_of_freeze freeze listed listed', if_neg (Census.freeze_eq_true.mp freeze), nobody]
    simp

/-- R80: a station that alone answers its own JOIN founds the cell. -/
theorem State.ownJoinTaken_alone {s : State} {rollCall : StationSet} (alone : setInsert s.own rollCall = [s.own])
    (standing : StationSet) :
    s.ownJoinTaken rollCall standing = { s with
      station := .synced
      roster := { members := [{ number := s.own, misses := 0 }], synced := [s.own], clash := s.roster.clash }
      attention := { s.attention with
        state := { pending := true, detail := 4 }, roster := { pending := true, detail := BitVec.ofNat 8 s.own } } } := by
  have founds := (RosterUnit.learned_roster s.own rollCall standing s.roster.clash).trans alone
  refine (if_pos founds).trans ?_
  rw [RosterUnit.learned_eq, alone]
  rfl

/-- R55, R84: a SYNCING station before its first run: the members it learned, and those that did not stand as joiners. -/
def State.learnedCell (rollCall standing : StationSet) (s : State) : State :=
  { s with
    station := .syncing
    roster := RosterUnit.learned s.own rollCall standing s.roster.clash
    census := { s.census with
      joiners := (RosterUnit.learned s.own rollCall standing s.roster.clash).owed, passOver := [], staging := [] } }

theorem State.ownJoinTaken_joins {s : State} {rollCall : StationSet} (others : setInsert s.own rollCall ≠ [s.own])
    (standing : StationSet) :
    s.ownJoinTaken rollCall standing = (s.learnedCell rollCall standing).resetRun.raiseRoster s.own := by
  have joins : (RosterUnit.learned s.own rollCall standing s.roster.clash).roster ≠ [s.own] := by
    rwa [RosterUnit.learned_roster]
  exact if_neg joins

/-- R55, R82, R84: the census state at the start of the first run. -/
theorem State.learnedCell_census {s : State} (clear : s.census = Census.cleared) (rollCall standing : StationSet) :
    let members := setInsert s.own rollCall
    let synced := members.filter fun j => standing.contains j
    let joiners := members.filter fun j => !synced.contains j
    (s.learnedCell rollCall standing).resetRun.census =
      { joiners := joiners, passOver := [], progress := 0, runCount := none,
        designated := if joiners = [] then none else (if synced = [] then members else synced).head?, staging := [] } := by
  intro members synced joiners
  have owed := RosterUnit.learned_owed s.own rollCall standing s.roster.clash
  have roster := RosterUnit.learned_roster s.own rollCall standing s.roster.clash
  have stood : (RosterUnit.learned s.own rollCall standing s.roster.clash).synced = synced := by
    rw [RosterUnit.learned_eq]
  have listed := StationSet.listed_setInsert s.own rollCall
  rw [State.resetRun_census]
  simp only [State.learnedCell, owed, roster, stood, clear, Census.cleared]
  exact Census.redesignated_of_no_passOver rfl listed (listed.filter _)

/-- R76, R84: what the start of the first run leaves. -/
theorem State.learnedCell_frame (rollCall standing : StationSet) (s : State) :
    (s.learnedCell rollCall standing).resetRun = { s with
      station := .syncing
      roster := RosterUnit.learned s.own rollCall standing s.roster.clash
      census := (s.learnedCell rollCall standing).resetRun.census
      outbound := (s.learnedCell rollCall standing).resetRun.outbound
      lease := { s.lease with window := .running s.durations.window } } := by
  rw [State.resetRun_frame]
  rfl

/-! ### The frame end (R79, R80, R84) -/

/-- R47, R79: the end of its own JOIN, TAKEN, at a JOINING station. -/
theorem State.exec_frameEnd_joined {s : State} {obs : FrameObs} {k : EntryKind} (joining : s.station = .joining)
    (frame : s.line.tracking = .frame) (taken : obs.taken = true) (runs : s.AttemptRuns obs k) :
    exec (.frameEnd obs) s = .next (s.closeFrame.takeEntry.ownJoinTaken obs.rollCall obs.standing) := by
  have settled := State.settled_of_heard (.inr ⟨k, runs⟩)
  have attempt : s.ownAttempt obs.cells = true := by
    obtain ⟨e, sent, -⟩ := Option.map_eq_some_iff.mp runs.1
    rw [State.ownAttempt_eq_isSome (.inr ⟨k, runs⟩), sent, Option.isSome_some]
  have closed : s.settledFrame obs.cells = s.closeFrame := congrArg State.closeFrame settled
  refine congrArg Host.Outcome.next ?_
  rw [State.frameEnd_eq frame, settled, attempt, closed, State.handOn_joining (s := s.closeFrame) _ _ joining,
    State.joiningFrameEnd, if_pos rfl, if_pos taken]

/-- R111: the JOIN entry on the line is gone and the spent flag stands. -/
theorem State.takeEntry_join {s : State} {e : Entry} (sent : s.outbound.onLine = some e) (join : e.kind.isJoin = true) :
    s.takeEntry = { s with outbound :=
      { entries := s.outbound.entries.filter fun x => !x.onLine, spent := s.outbound.spent, sending := [] } } := by
  have low : decide (4 ≤ e.kind.frameClass) = false := by
    cases x : e.kind <;> simp [x, EntryKind.isJoin, EntryKind.frameClass] at join ⊢
  simp only [State.takeEntry, sent, low, Bool.or_false]

/-- R103: where a JOIN is the entry on the line, the entries that are neither on it nor of a kind that the run's start withdraws
are those of the other kinds. -/
theorem State.OutboundFits.joined_entries {s : State} (fits : s.OutboundFits) {e : Entry} (sent : s.outbound.onLine = some e)
    (join : e.kind.isJoin = true) :
    ((s.outbound.entries.filter fun x => !x.onLine).filter fun x => !(x.kind.isCensus || x.kind.isJoin)) =
      s.outbound.entries.filter fun x => !x.kind.isJoin && !x.kind.isCensus := by
  rw [List.filter_filter]
  refine List.filter_congr fun x hx => ?_
  cases on : x.onLine
  · simp [Bool.and_comm]
  · obtain rfl := fits.eq_of_onLine sent hx on
    simp [join]

/-! ### The obligation -/

/-- Settles O50: the frame end is `ownJoinTaken` (R55), which founds a cell or begins a run by `resetRun_census` and
`resetRun_entries`. -/
theorem ownJoinTakenEntersTheCell : Obligations.OwnJoinTakenEntersTheCell := by
  unfold Obligations.OwnJoinTakenEntersTheCell
  intro obs s pass inv joining frame taken runs members synced joiners designated others part shown
  have run := State.exec_frameEnd_joined joining frame taken runs
  obtain ⟨e, sent, kind⟩ := Option.map_eq_some_iff.mp runs.1
  have join : e.kind.isJoin = true := by rw [kind]; rfl
  obtain ⟨-, -, place, -, fits, -, ⟨-, -, clear⟩, -⟩ := inv
  have table : s.table = Table.cleared := place (by rw [joining]; rfl)
  have census : s.census = Census.cleared := clear (by rw [joining]; rfl)
  have entry := State.takeEntry_join (s := s.closeFrame) sent join
  have rest := s.closeFrame.takeEntry_frame
  have left : s.closeFrame.takeEntry.outbound.entries = s.outbound.entries.filter fun x => !x.onLine := by rw [entry]; rfl
  have unspent : s.closeFrame.takeEntry.outbound.spent = s.outbound.spent := by rw [entry]; rfl
  generalize s.closeFrame.takeEntry = u at run rest left unspent
  have number : u.own = s.own := by rw [rest]; rfl
  refine ⟨fun alone => ⟨_, run, ?_⟩, fun more => ⟨_, run, ?_⟩⟩
  · rw [State.ownJoinTaken_alone (by rwa [number]) obs.standing, number]
    exact ⟨rfl, (congrArg State.table rest).trans table, by rw [rest]; rfl, (congrArg State.census rest).trans census,
      (congrArg State.slots rest :), left, unspent, by rw [rest]; rfl⟩
  · have begun := State.learnedCell_census (s := u) (by rwa [rest]) obs.rollCall obs.standing
    have whole := u.learnedCell_frame obs.rollCall obs.standing
    have entries := (u.learnedCell obs.rollCall obs.standing).resetRun_entries
    have spent := (u.learnedCell obs.rollCall obs.standing).resetRun_spent
    have roster := RosterUnit.learned_eq s.own obs.rollCall obs.standing s.roster.clash
    rw [number] at begun
    rw [State.ownJoinTaken_joins (by rwa [number]) obs.standing, number]
    generalize (u.learnedCell obs.rollCall obs.standing).resetRun = t at whole entries spent begun ⊢
    rw [rest] at whole
    refine ⟨congrArg State.station whole, (congrArg State.table whole).trans table, (congrArg State.roster whole).trans roster,
      begun, congrArg State.lease whole, (congrArg State.slots whole :), ?_, spent.trans unspent, ?_⟩
    · refine entries.trans (congrArg₂ (· ++ ·) ?_ ?_)
      · exact (congrArg (List.filter _) left).trans (fits.joined_entries sent join)
      · have owner : (u.learnedCell obs.rollCall obs.standing).own = s.own := number
        have frozen : t.census.designated = some s.own → t.census.freeze = true := by
          rw [begun, Census.freeze_eq_true]
          exact fun own none_owed => Option.some_ne_none _ (own.symm.trans (if_pos none_owed))
        have chosen : t.census.designated = designated := congrArg Census.designated begun
        exact if_congr (by rw [owner, and_iff_right_of_imp frozen, chosen]) rfl rfl
    · rw [State.raiseRoster, whole]
      rfl

end Sys2Proof.Machine
end

section
/-! SUPPORT. The members after a roll-call, the evictions and the end of the own attempt, in the order of a VOID frame end (R24,
R51, R52, R93, R112, R141). -/

namespace Sys2Proof.Machine

set_option Elab.async false

/-! ### Entries and slots at the end of an attempt (R110, R112, R141) -/

/-- R110, R112: the entries after the end of the attempt on the line: the one whose withdrawal waits is gone, and any other
stands in its place. -/
theorem State.endAttempt_entries {s : State}
    (one : ∀ e x, s.outbound.onLine = some e → x ∈ s.outbound.entries → x.onLine = true → x = e) (counted : Bool) :
    (s.endAttempt counted).outbound.entries =
      (s.outbound.entries.filter fun x => !(x.onLine && x.withdrawn)).map (Entry.returned counted) := by
  have kept : ∀ l : List Entry, (∀ x ∈ l, x.onLine = false) → l.map (Entry.returned counted) = l := fun l off =>
    (List.map_congr_left fun x hx => by simp [Entry.returned, off x hx]).trans (List.map_id _)
  obtain ⟨idle, same⟩ | ⟨e, sent, waits, same⟩ | ⟨e, sent, stays, -⟩ := s.endAttempt_cases counted
  · have off : ∀ x ∈ s.outbound.entries, x.onLine = false := fun x hx => by simpa using List.find?_eq_none.mp idle x hx
    have every : (s.outbound.entries.filter fun x => !(x.onLine && x.withdrawn)) = s.outbound.entries :=
      List.filter_eq_self.mpr fun x hx => by simp [off x hx]
    rw [same, every, kept _ off]
  · have gone : (s.outbound.entries.filter fun x => !(x.onLine && x.withdrawn)) =
        s.outbound.entries.filter fun x => !x.onLine := by
      refine List.filter_congr fun x hx => ?_
      cases on : x.onLine
      · rfl
      · rw [one e x sent hx on, waits]; rfl
    rw [same, State.settleDropWanted_outbound, gone, kept _ fun x hx => by simpa using (List.mem_filter.mp hx).2]
  · have every : (s.outbound.entries.filter fun x => !(x.onLine && x.withdrawn)) = s.outbound.entries := by
      refine List.filter_eq_self.mpr fun x hx => ?_
      cases on : x.onLine
      · rfl
      · rw [one e x sent hx on, stays]; rfl
    rw [State.endAttempt_returned sent stays, every]

theorem State.endAttempt_spent (counted : Bool) (s : State) :
    (s.endAttempt counted).outbound.spent = s.outbound.spent := by
  obtain ⟨-, h⟩ | ⟨_, -, -, h⟩ | ⟨_, -, -, h⟩ := s.endAttempt_cases counted <;> rw [h]
  rw [State.settleDropWanted_outbound]

/-- R141: the slots after the end of the attempt on the line, in the words of the obligations. -/
theorem State.SlotsFit.endAttempt_slots {s : State} (fits : s.SlotsFit) (counted : Bool) :
    (s.endAttempt counted).slots = s.freedWithAttempt s.slots := by
  obtain ⟨idle, same⟩ | ⟨e, sent, waits, same⟩ | ⟨e, sent, stays, same⟩ := s.endAttempt_cases counted
  · rw [same, State.freedWithAttempt, idle]
  · cases claim : e.kind with
    | claim k =>
      by_cases wanted : (s.slotAt k).dropWanted = true
      · rw [State.endAttempt_withdrawn fits sent waits claim wanted]
        simp only [State.freedWithAttempt, sent, claim, waits, wanted, and_self, if_true]
      · rw [same, claim, State.freedWithAttempt, sent]
        simp only [State.settleDropWanted, EntryKind.claimTag, claim]
        exact (congrArg State.slots (if_neg wanted)).trans (if_neg fun both => wanted both.2).symm
    | _ =>
      rw [same, claim, State.freedWithAttempt, sent]
      simp only [claim]
      rfl
  · rw [same, State.freedWithAttempt, sent]
    simp only [stays, Bool.false_eq_true, false_and, if_false]
    cases e.kind <;> rfl

/-! ### The evictions (R52, R93) -/

theorem State.progressChanged_duePart (s : State) : s.progressChanged.duePart = s.duePart := by
  rw [State.progressChanged_frame]
  rfl

/-- R52, R87, R93, R94: the entry order after an eviction. Under the freeze the census restarts or ends. -/
theorem State.evict_entries (gone : StationSet) (s : State) :
    (s.evict gone).outbound.entries =
      if s.census.freeze = true then
        (s.outbound.entries.filter fun e => !s.restartsKind e.kind) ++ (s.evict gone).duePart
      else s.outbound.entries := by
  unfold State.evict
  rw [State.removeRecords_frame]
  dsimp only
  split
  · split
    · unfold State.resetRun
      rw [State.progressChanged_duePart, State.progressChanged_entries, State.redesignate_outbound, State.redesignate_eq]
      rfl
    · rw [State.progressChanged_duePart, State.progressChanged_entries]
      refine congrArg (· ++ _) ?_
      dsimp only [State.endCensus]
      rw [State.discard_outbound, Outbound.discard_entries, List.filter_filter]
      refine List.filter_congr fun e _ => ?_
      simp only [State.restartsKind, State.discard_station]
      cases e.kind.isCensus <;> simp
  · rw [State.redesignate_outbound]

theorem State.evict_spent (gone : StationSet) (s : State) : (s.evict gone).outbound.spent = s.outbound.spent := by
  unfold State.evict
  rw [State.removeRecords_frame]
  dsimp only
  split
  · split
    · exact State.resetRun_spent _
    · exact State.progressChanged_spent _
  · rw [State.redesignate_outbound]

/-! ### The misses counted and the members evicted (R51, R52) -/

/-- R47, R51: the station with the frame closed and the misses of its roll-call counted. -/
def State.missed (s : State) (rollCall : StationSet) : State :=
  s.closeFrame.countMisses rollCall

/-- R52: the station after these members are evicted, if there are any. -/
def State.ousted (s : State) (rollCall gone : StationSet) : State :=
  if gone = [] then s.missed rollCall else (s.missed rollCall).evict gone

theorem State.ousted_frame (s : State) (rollCall gone : StationSet) :
    s.ousted rollCall gone = { s.closeFrame with
      table := if gone = [] then s.table else s.table.without fun o _ => gone.contains o
      slots := if gone = [] then s.slots else s.slotsAfterGrants (s.table.grantedWithout fun o _ => gone.contains o)
      roster := (s.ousted rollCall gone).roster
      census := (s.ousted rollCall gone).census
      outbound := (s.ousted rollCall gone).outbound
      lease := { s.lease with
        window := if gone ≠ [] ∧ s.census.freeze = true ∧ s.station = .syncing then .running s.durations.window
          else s.lease.window } } := by
  unfold State.ousted
  split
  · rename_i nobody
    rw [if_neg fun some_gone => some_gone.1 nobody]
    rfl
  · rename_i some_gone
    rw [State.evict_frame, State.evict_lease, State.removeRecords_slots]
    simp only [ne_eq, some_gone, not_false_eq_true, true_and]
    rfl

theorem Member.afterRollCall_number (rollCall : StationSet) (m : Member) : (m.afterRollCall rollCall).number = m.number := rfl

/-- R51, R52: the roster unit after the evictions. -/
theorem State.ousted_roster {s : State} (listed : StationSet.Listed s.roster.synced) (rollCall gone : StationSet) :
    (s.ousted rollCall gone).roster =
      { members := (s.roster.members.map (Member.afterRollCall rollCall)).filter fun m => !gone.contains m.number
        synced := s.roster.synced.filter fun j => !gone.contains j
        clash := s.roster.clash } := by
  unfold State.ousted
  split
  · rename_i nobody
    simp [nobody, State.missed, State.countMisses, RosterUnit.countMisses, State.closeFrame, Member.afterRollCall]
  · rw [State.evict_frame]
    simp only [RosterUnit.drop, State.missed, State.countMisses, RosterUnit.countMisses, State.closeFrame,
      setDiff_of_listed listed]
    rfl

/-- R82, R93: the census state after the evictions. -/
theorem State.ousted_census (s : State) (rollCall gone : StationSet) :
    (s.ousted rollCall gone).census = if gone = [] then s.census else ((s.missed rollCall).evict gone).census := by
  unfold State.ousted
  split <;> rfl

/-- R87, R93, R94: the kinds of entry that an eviction withdraws as it resets the run or ends the census. -/
def State.oustsKind (s : State) (gone : StationSet) (k : EntryKind) : Bool :=
  !gone.isEmpty && s.census.freeze && s.restartsKind k

/-- R87, R93: the CENSUS entry that an eviction leaves the designated sender of the run it resets. -/
def State.oustedPart (s : State) (rollCall gone : StationSet) : List Entry :=
  if gone ≠ [] ∧ s.census.freeze = true then (s.ousted rollCall gone).duePart else []

theorem State.ousted_entries (s : State) (rollCall gone : StationSet) :
    (s.ousted rollCall gone).outbound.entries =
      (s.outbound.entries.filter fun e => !s.oustsKind gone e.kind) ++ s.oustedPart rollCall gone := by
  unfold State.oustedPart State.ousted State.oustsKind
  by_cases nobody : gone = []
  · simp [nobody, State.missed, State.closeFrame, State.countMisses]
  · have someone : gone.isEmpty = false := by simpa using nobody
    have entries := (s.missed rollCall).evict_entries gone
    cases frozen : s.census.freeze
    · rw [if_neg nobody, entries, if_neg (show ¬(s.missed rollCall).census.freeze = true from by
        rw [show (s.missed rollCall).census.freeze = s.census.freeze from rfl, frozen]; exact Bool.false_ne_true)]
      simp [State.missed, State.closeFrame, State.countMisses]
    · rw [if_neg nobody, entries, if_pos (show (s.missed rollCall).census.freeze = true from frozen)]
      simp [someone, nobody, State.missed, State.closeFrame, State.countMisses, State.restartsKind]

theorem State.ousted_spent (s : State) (rollCall gone : StationSet) :
    (s.ousted rollCall gone).outbound.spent = s.outbound.spent := by
  unfold State.ousted
  split
  · rfl
  · exact State.evict_spent _ _

end Sys2Proof.Machine
end

section
/-! SUPPORT. The CENSUS entry and the own attempt under the evictions of a VOID frame end (R87, R93, R141). -/

namespace Sys2Proof.Machine

set_option Elab.async false

theorem Census.redesignated_progress (c : Census) (roster synced : StationSet) :
    (c.redesignated roster synced).progress = c.progress := by
  unfold Census.redesignated
  split <;> rfl

/-- R93: an eviction under the freeze sets progress to part 0. -/
theorem State.evict_progress {s : State} (frozen : s.census.freeze = true) (gone : StationSet) :
    (s.evict gone).census.progress = 0 := by
  rw [State.evict_census, if_pos frozen]
  split
  · rw [Census.redesignated_progress]
  · rfl

/-- R87, R93: the CENSUS entry after the evictions is the new one of part 0, held where the run was reset and this station is
designated. -/
theorem State.oustedPart_eq (s : State) (rollCall gone : StationSet) :
    s.oustedPart rollCall gone =
      if (gone ≠ [] ∧ s.census.freeze = true) ∧ (s.ousted rollCall gone).census.freeze = true ∧
          (s.ousted rollCall gone).census.designated = some s.own then
        [Entry.fresh (.census 0)]
      else [] := by
  unfold State.oustedPart
  by_cases resets : gone ≠ [] ∧ s.census.freeze = true
  · have progress : (s.ousted rollCall gone).census.progress = 0 := by
      rw [State.ousted, if_neg resets.1]
      exact State.evict_progress (s := s.missed rollCall) resets.2 gone
    have number : (s.ousted rollCall gone).own = s.own := by rw [State.ousted_frame]; rfl
    rw [if_pos resets, State.duePart, progress, number]
    exact if_congr (by simp [resets]) rfl rfl
  · rw [if_neg resets, if_neg fun both => resets both.1]

theorem State.mem_oustedPart {s : State} {rollCall gone : StationSet} {x : Entry} (hx : x ∈ s.oustedPart rollCall gone) :
    x = Entry.fresh (.census 0) ∧ gone ≠ [] ∧ s.census.freeze = true := by
  rw [State.oustedPart_eq] at hx
  split at hx
  · rename_i held
    exact ⟨List.mem_singleton.mp hx, held.1⟩
  · contradiction

/-- R103, R118: the entry on the line after the evictions: the one that was, unless they withdraw it. -/
theorem State.ousted_onLine {s : State} (fits : s.OutboundFits) (rollCall gone : StationSet) :
    (s.ousted rollCall gone).outbound.onLine = s.outbound.onLine.filter fun e => !s.oustsKind gone e.kind := by
  have fresh : (s.oustedPart rollCall gone).find? (fun e => e.onLine) = none := by
    refine List.find?_eq_none.mpr fun x hx => ?_
    rw [(State.mem_oustedPart hx).1]
    exact Bool.false_ne_true
  rw [Outbound.onLine, State.ousted_entries, List.find?_append, fresh, Option.or_none, List.find?_filter]
  cases sent : s.outbound.onLine with
  | none =>
    rw [Option.filter_none, List.find?_eq_none]
    intro x hx both
    exact List.find?_eq_none.mp sent x hx (of_decide_eq_true both).2
  | some e =>
    cases stays : s.oustsKind gone e.kind
    · rw [Option.filter_some, stays, Bool.not_false, if_pos rfl, ← sent]
      refine List.find?_congr fun x hx => ?_
      cases on : x.onLine
      · simp
      · simp [fits.eq_of_onLine sent hx on, stays]
    · rw [Option.filter_some, stays, Bool.not_true, if_neg Bool.false_ne_true, List.find?_eq_none]
      intro x hx both
      obtain ⟨kept, on⟩ := of_decide_eq_true both
      rw [fits.eq_of_onLine sent hx on, stays] at kept
      exact Bool.false_ne_true kept

/-- R103: no entry but the one on the line is marked so after the evictions either. -/
theorem State.ousted_one {s : State} (fits : s.OutboundFits) (rollCall gone : StationSet) (e x : Entry)
    (sent : (s.ousted rollCall gone).outbound.onLine = some e) (hx : x ∈ (s.ousted rollCall gone).outbound.entries)
    (on : x.onLine = true) : x = e := by
  rw [State.ousted_onLine fits] at sent
  obtain ⟨was, -⟩ := Option.filter_eq_some_iff.mp sent
  rw [State.ousted_entries] at hx
  rcases List.mem_append.mp hx with old | new
  · exact fits.eq_of_onLine was (List.mem_filter.mp old).1 on
  · rw [(State.mem_oustedPart new).1] at on
    contradiction

theorem EntryKind.claimTag_eq_some {k : EntryKind} {tag : Nat} : k.claimTag = some tag ↔ k = .claim tag := by
  cases k <;> simp [EntryKind.claimTag]

/-- R141: the end of an attempt frees no slot but that of a CLAIM on the line. -/
theorem State.freedWithAttempt_of_no_claim {s : State} (other : ∀ e, s.outbound.onLine = some e → e.kind.claimTag = none)
    (l : List Slot) : s.freedWithAttempt l = l := by
  unfold State.freedWithAttempt
  split
  · rfl
  · rename_i e sent
    split
    · rename_i k claim
      have none_stands := other e sent
      rw [claim] at none_stands
      contradiction
    · rfl

theorem State.freedWithAttempt_of_claim {s : State} {e : Entry} {k : Nat} (sent : s.outbound.onLine = some e)
    (claim : e.kind = .claim k) (l : List Slot) :
    s.freedWithAttempt l =
      if e.withdrawn = true ∧ (s.slotAt k).dropWanted = true then
        l.set k { state := .free, mode := none, zones := [], reason := none, changed := true, dropWanted := false }
      else l := by
  simp only [State.freedWithAttempt, sent, claim]

theorem State.CoreFits.ousted {s : State} (core : s.CoreFits) (rollCall gone : StationSet) :
    (s.ousted rollCall gone).CoreFits := by
  have counted : (s.missed rollCall).CoreFits := core.of_eq rfl rfl rfl rfl
  unfold State.ousted
  split
  · exact counted
  · exact counted.evict gone

/-- R134: a slot that is not QUEUED is not drop-wanted. -/
theorem State.SlotsFit.not_dropWanted {s : State} (slots : s.SlotsFit) {k : Nat} (other : (s.slotAt k).state ≠ .queued) :
    (s.slotAt k).dropWanted = false := by
  by_contra wanted
  exact other (slots.queued_of_dropWanted (by simpa using wanted))

/-- R139: the grants after the evictions leave drop-wanted. -/
theorem State.ousted_dropWanted {s : State} (core : s.CoreFits) (rollCall gone : StationSet) (k : Nat) :
    ((s.ousted rollCall gone).slotAt k).dropWanted = (s.slotAt k).dropWanted := by
  have slots : (s.ousted rollCall gone).slots = _ := congrArg State.slots (s.ousted_frame rollCall gone)
  by_cases nobody : gone = []
  · rw [State.slotAt, slots]
    simp only [if_pos nobody]
    rfl
  · simp only [if_neg nobody] at slots
    obtain same | ⟨waiting, granted⟩ := State.slotAt_afterGrants slots k
    · rw [same]
    · rw [(core.ousted rollCall gone).slots.not_dropWanted (by simp [granted]), core.slots.not_dropWanted (by simp [waiting])]

/-- R141: the slot that the end of the attempt frees is the same after the evictions, which withdraw no CLAIM. -/
theorem State.ousted_freedWithAttempt {s : State} (fits : s.OutboundFits) (core : s.CoreFits) (rollCall gone : StationSet)
    (l : List Slot) : (s.ousted rollCall gone).freedWithAttempt l = s.freedWithAttempt l := by
  have line := State.ousted_onLine fits rollCall gone
  by_cases claims : ∃ e k, s.outbound.onLine = some e ∧ e.kind = .claim k
  · obtain ⟨e, k, sent, claim⟩ := claims
    have stays : s.oustsKind gone e.kind = false := by
      simp [State.oustsKind, State.restartsKind, claim, EntryKind.isCensus, EntryKind.isJoin]
    rw [sent, Option.filter_some, stays, Bool.not_false, if_pos rfl] at line
    rw [State.freedWithAttempt_of_claim line claim, State.freedWithAttempt_of_claim sent claim, State.ousted_dropWanted core]
  · have no_claim : ∀ e, s.outbound.onLine = some e → e.kind.claimTag = none := fun e sent => by
      by_contra claim
      obtain ⟨k, tag⟩ := Option.ne_none_iff_exists'.mp claim
      exact claims ⟨e, k, sent, EntryKind.claimTag_eq_some.mp tag⟩
    rw [State.freedWithAttempt_of_no_claim no_claim, State.freedWithAttempt_of_no_claim]
    intro e sent
    rw [line] at sent
    exact no_claim e (Option.filter_eq_some_iff.mp sent).1

end Sys2Proof.Machine
end

section
/-! SUPPORT. The lease unit's work at a VOID frame end (R24, R66, R69 to R71, R73, R112). -/

namespace Sys2Proof.Machine

set_option Elab.async false

/-! ### The lease unit's work on one entry (R69, R70, R73) -/

/-- R69, R70: an entry after the lease unit's work stood before and is not moot, or is the EXPIRE entry of a peer with records,
entered at the end of the freeze. -/
theorem State.mem_leaseWork_cases {s : State} {renewed expired : Option Nat} {own frozen : Bool} {e : Entry}
    (held : e ∈ (s.leaseWork renewed expired own frozen).outbound.entries) :
    (e ∈ s.outbound.entries ∧ s.mootAtEnd renewed expired own e.kind = false) ∨
      (s.Defers frozen ∧ ∃ k, e = Entry.fresh (.expire k) ∧ 0 < s.table.countOf k) := by
  have before : ∀ u : State, u.outbound.entries = s.outbound.entries.filter (fun e => !s.mootAtEnd renewed expired own e.kind) →
      e ∈ u.outbound.entries → e ∈ s.outbound.entries ∧ s.mootAtEnd renewed expired own e.kind = false := by
    intro u entries he
    rw [entries] at he
    exact (List.mem_filter.mp he).imp_right fun stays => by simpa using stays
  by_cases defers : s.Defers frozen
  · rw [State.leaseWork_of_defers defers] at held
    obtain old | ⟨x, waits, new⟩ := State.mem_requests held
    · refine .inl (before _ ?_ old)
      rw [State.discard_outbound, Outbound.discard_entries, State.ownTimersAfter_outbound]
    · refine .inr ⟨defers, x.peer, new, ?_⟩
      have lease : x ∈ s.leasesAfter renewed := by
        have all := (List.mem_filter.mp waits).1
        have timed : ∀ u : State, (u.ownTimersAfter own).lease.leases = u.lease.leases := fun u => by
          obtain ⟨_, h⟩ | ⟨_, _, h⟩ | ⟨_, _, _, h⟩ := State.ownTimersAfter_cases own u <;> rw [h]
        rwa [State.discard_lease, timed] at all
      obtain ⟨k, hk, rfl⟩ := List.mem_map.mp lease
      have owns := (mem_setOf.mp hk).2
      simp only [Bool.and_eq_true, decide_eq_true_eq] at owns
      exact owns.2
  · exact .inl (before _ (State.leaseWork_entries defers _ _ _) held)

/-- R70, R104: requests for EXPIRE entries take none away. -/
theorem State.mem_requests_of_mem (l : List Lease) {s : State} {e : Entry} (held : e ∈ s.outbound.entries) :
    e ∈ (l.foldl (fun u x => u.request (.expire x.peer)) s).outbound.entries := by
  induction l generalizing s with
  | nil => exact held
  | cons x l ih =>
    refine ih ?_
    rw [State.request_outbound]
    obtain ⟨-, h⟩ | ⟨-, h⟩ := s.outbound.request_cases (.expire x.peer) <;> rw [h]
    · exact held
    · exact List.mem_append_left _ held

/-- R69, R73: an entry that is not moot stands after the lease unit's work. -/
theorem State.mem_leaseWork_of_stays {s : State} {renewed expired : Option Nat} {own frozen : Bool} {e : Entry}
    (held : e ∈ s.outbound.entries) (stays : s.mootAtEnd renewed expired own e.kind = false) :
    e ∈ (s.leaseWork renewed expired own frozen).outbound.entries := by
  have kept : e ∈ s.outbound.entries.filter fun e => !s.mootAtEnd renewed expired own e.kind :=
    List.mem_filter.mpr ⟨held, by simp [stays]⟩
  by_cases defers : s.Defers frozen
  · rw [State.leaseWork_of_defers defers]
    refine State.mem_requests_of_mem _ ?_
    rwa [State.discard_outbound, Outbound.discard_entries, State.ownTimersAfter_outbound]
  · rwa [State.leaseWork_entries defers]

/-! ### The owners left by the evictions (R14, R24) -/

/-- R11, R14: a station owns records after the removal where it owned one that stays. -/
theorem Table.Sound.any_owner_without {t : Table} (h : t.Sound) (gone : StationSet) (k : Nat) :
    ((t.without fun o _ => gone.contains o).requests.any fun r => r.owner == k) =
      t.requests.any fun r => r.owner == k && !gone.contains k := by
  obtain ⟨-, turned, -⟩ := (h.remove fun o _ => gone.contains o).grantPass
  have owners : (t.without fun o _ => gone.contains o).requests.map Record.owner =
      (t.remove fun o _ => gone.contains o).requests.map Record.owner := by
    have refs := congrArg (List.map RecordRef.owner) (forall₂_mayTurnGranted turned).1
    rw [List.map_map, List.map_map] at refs
    exact refs
  have same := congrArg (List.any · fun o => o == k) owners
  simp only [List.any_map] at same
  have one : ∀ r : Record, (!gone.contains r.owner && r.owner == k) = (r.owner == k && !gone.contains k) := fun r => by
    by_cases owner : r.owner = k
    · simp [owner, Bool.and_comm]
    · have off : (r.owner == k) = false := by simpa using owner
      simp [off]
  refine same.trans ?_
  simp only [Table.remove, List.any_filter, Function.comp_def, one]

/-! ### The own attempt and the lease unit's work (R71, R112) -/

/-- R112: the station after the evictions and the end of the attempt on the line, if there is one. -/
def State.attemptEnded (s : State) (rollCall gone : StationSet) : State :=
  (s.ousted rollCall gone).endAttempt true

/-- R71, R112: the station after the lease unit's work at a VOID frame end that evicts these members. -/
def State.voided (s : State) (rollCall gone : StationSet) : State :=
  (s.attemptEnded rollCall gone).leaseWork none none false s.census.freeze

theorem State.attemptEnded_frame (s : State) (rollCall gone : StationSet) :
    s.attemptEnded rollCall gone = { s.closeFrame with
      table := if gone = [] then s.table else s.table.without fun o _ => gone.contains o
      slots := (s.attemptEnded rollCall gone).slots
      roster := (s.ousted rollCall gone).roster
      census := (s.ousted rollCall gone).census
      outbound := (s.attemptEnded rollCall gone).outbound
      lease := { s.lease with
        window := if gone ≠ [] ∧ s.census.freeze = true ∧ s.station = .syncing then .running s.durations.window
          else s.lease.window } } := by
  unfold State.attemptEnded
  rw [State.endAttempt_frame, State.ousted_frame]

theorem State.voided_frame (s : State) (rollCall gone : StationSet) :
    s.voided rollCall gone = { s.closeFrame with
      table := if gone = [] then s.table else s.table.without fun o _ => gone.contains o
      slots := (s.attemptEnded rollCall gone).slots
      roster := (s.ousted rollCall gone).roster
      census := (s.ousted rollCall gone).census
      outbound := (s.voided rollCall gone).outbound
      lease := (s.voided rollCall gone).lease } := by
  unfold State.voided
  rw [State.leaseWork_frame, State.attemptEnded_frame]

theorem State.attemptEnded_slots {s : State} (fits : s.OutboundFits) (core : s.CoreFits) (rollCall gone : StationSet) :
    (s.attemptEnded rollCall gone).slots = s.freedWithAttempt
      (if gone = [] then s.slots else s.slotsAfterGrants (s.table.grantedWithout fun o _ => gone.contains o)) := by
  unfold State.attemptEnded
  rw [State.SlotsFit.endAttempt_slots (core.ousted rollCall gone).slots, State.ousted_freedWithAttempt fits core]
  exact congrArg s.freedWithAttempt (congrArg State.slots (s.ousted_frame rollCall gone) :)

theorem State.voided_spent (s : State) (rollCall gone : StationSet) :
    (s.voided rollCall gone).outbound.spent = s.outbound.spent := by
  rw [State.voided, State.leaseWork_spent, State.attemptEnded, State.endAttempt_spent, State.ousted_spent]

/-- R110, R112: the entries that the evictions and the end of the attempt leave, and the CENSUS entry they may add. -/
theorem State.attemptEnded_entries {s : State} (fits : s.OutboundFits) (rollCall gone : StationSet) :
    (s.attemptEnded rollCall gone).outbound.entries =
      ((s.outbound.entries.filter fun x => !s.oustsKind gone x.kind && !(x.onLine && x.withdrawn)).map (Entry.returned true)) ++
        s.oustedPart rollCall gone := by
  have fresh : ((s.oustedPart rollCall gone).filter fun x => !(x.onLine && x.withdrawn)).map (Entry.returned true) =
      s.oustedPart rollCall gone := by
    rw [State.oustedPart_eq]
    split <;> rfl
  rw [State.attemptEnded, State.endAttempt_entries (State.ousted_one fits rollCall gone), State.ousted_entries,
    List.filter_append, List.map_append, fresh, List.filter_filter]
  simp only [Bool.and_comm]

theorem State.attemptEnded_own (s : State) (rollCall gone : StationSet) : (s.attemptEnded rollCall gone).own = s.own := by
  rw [State.attemptEnded_frame]
  rfl

/-- R24: the owners of records after the evictions. -/
theorem State.attemptEnded_owner {s : State} (wf : s.table.Wf) (rollCall gone : StationSet) (k : Nat) :
    ((s.attemptEnded rollCall gone).table.requests.any fun r => r.owner == k) =
      s.table.requests.any fun r => r.owner == k && !gone.contains k := by
  rw [State.attemptEnded_frame]
  by_cases nobody : gone = []
  · simp [nobody]
  · simp only [if_neg nobody]
    exact wf.1.any_owner_without gone k

/-- R69, R73, R87, R94: an entry is moot at this frame end where the evictions withdraw its kind or the lease unit's work does. -/
theorem State.mootAtVoid_eq {s : State} (wf : s.table.Wf) (rollCall : StationSet) {gone : StationSet} (stays : s.own ∉ gone)
    (k : EntryKind) :
    s.mootAtVoid gone k = (s.oustsKind gone k || (s.attemptEnded rollCall gone).mootAtEnd none none false k) := by
  have owner := State.attemptEnded_owner wf rollCall gone
  cases k with
  | expire target =>
    simp [State.mootAtVoid, State.oustsKind, State.restartsKind, EntryKind.isCensus, EntryKind.isJoin, State.mootAtEnd,
      State.expireMoot, Table.countOf_eq_zero, owner]
  | pulse =>
    simp [State.mootAtVoid, State.oustsKind, State.restartsKind, EntryKind.isCensus, EntryKind.isJoin, State.mootAtEnd,
      State.expireMoot, Table.countOf_eq_zero, State.attemptEnded_own, owner, stays]
  | _ =>
    simp [State.mootAtVoid, State.oustsKind, State.restartsKind, EntryKind.isCensus, EntryKind.isJoin, State.mootAtEnd,
      State.expireMoot, Bool.and_assoc, Bool.and_comm]

end Sys2Proof.Machine
end

section
/-! SUPPORT. The run of a VOID frame end at a member (R47, R51 to R53, R62, R114). -/

namespace Sys2Proof.Machine

set_option Elab.async false

/-! ### The own miss count (R51, R53) -/

theorem State.missed_members (s : State) (rollCall : StationSet) :
    (s.missed rollCall).roster.members = s.roster.members.map (Member.afterRollCall rollCall) := rfl

theorem State.missed_roster (s : State) (rollCall : StationSet) : (s.missed rollCall).roster.roster = s.roster.roster :=
  RosterUnit.countMisses_roster _ _

/-- R53: a member is among those that come to E where its miss count after this roll-call does. -/
theorem State.mem_reachingE {s : State} (nodup : s.roster.roster.Nodup) {k : Nat} (member : k ∈ s.roster.roster)
    (rollCall : StationSet) :
    k ∈ s.reachingE rollCall ↔ s.evictAt ≤ (s.missed rollCall).roster.missesOf k := by
  have unique : (s.missed rollCall).roster.roster.Nodup := by rwa [State.missed_roster]
  have count : ∀ m ∈ (s.missed rollCall).roster.members, (s.missed rollCall).roster.missesOf m.number = m.misses :=
    fun m hm => RosterUnit.missesOf_of_mem unique hm
  simp only [State.reachingE, List.mem_map, List.mem_filter, decide_eq_true_eq]
  constructor
  · rintro ⟨m, ⟨hm, reached⟩, rfl⟩
    rwa [count m (List.mem_map.mpr hm)]
  · intro reached
    rw [← State.missed_roster s rollCall] at member
    obtain ⟨m, hm, rfl⟩ := List.mem_map.mp member
    rw [count m hm] at reached
    exact ⟨m, ⟨List.mem_map.mp hm, reached⟩, rfl⟩

/-- R53: the evictions of other members leave the own miss count. -/
theorem State.voided_missesOf {s : State} (rollCall : StationSet) {gone : StationSet} (stays : s.own ∉ gone) :
    (s.voided rollCall gone).roster.missesOf s.own = (s.missed rollCall).roster.missesOf s.own := by
  rw [State.voided_frame]
  unfold State.ousted
  split
  · rfl
  · rw [State.evict_frame]
    exact RosterUnit.missesOf_drop _ stays

theorem State.voided_own (s : State) (rollCall gone : StationSet) : (s.voided rollCall gone).own = s.own := by
  rw [State.voided_frame]
  rfl

theorem State.voided_config (s : State) (rollCall gone : StationSet) : (s.voided rollCall gone).config = s.config := by
  rw [State.voided_frame]
  rfl

/-! ### The VOID frame end at a member (R47, R51 to R53) -/

/-- R52: the members other than itself that a station evicts after this roll-call. -/
def State.evictees (s : State) (rollCall : StationSet) : StationSet :=
  (s.missed rollCall).toEvict

theorem State.own_notMem_evictees (s : State) (rollCall : StationSet) : s.own ∉ s.evictees rollCall :=
  (s.missed rollCall).own_notMem_toEvict

theorem State.Inv.own_mem_roster {s : State} (inv : s.Inv) (tracks : s.station.tracksCensus = true) :
    s.own ∈ s.roster.roster := by
  obtain ⟨-, -, -, -, -, ⟨-, -, -, member, -⟩, -⟩ := inv
  simpa [State.isMember] using member tracks

/-- R52, R53: a station short of E misses of its own evicts every member that comes to E. -/
theorem State.evictees_eq {s : State} (inv : s.Inv) (tracks : s.station.tracksCensus = true) {rollCall : StationSet}
    (short : s.own ∉ s.reachingE rollCall) : s.evictees rollCall = s.reachingE rollCall := by
  have nodup := inv.listed.1.nodup
  rw [State.mem_reachingE nodup (inv.own_mem_roster tracks), Nat.not_le] at short
  exact State.toEvict_eq (by rwa [State.missed_roster]) short

/-- R53, R62, R114: the rest of a VOID frame end at a member after the lease unit's work. -/
def State.voidEnd (s : State) (rollCall : StationSet) : State :=
  let v := s.voided rollCall (s.evictees rollCall)
  if s.own ∈ s.reachingE rollCall then v.selfRestart .ownMisses
  else (v.raiseRosterFor (s.evictees rollCall).min?).actOnExhaustion

/-- R112: with no attempt on the line its end changes nothing, so that a VOID frame end is the same for any sender. -/
theorem State.leasedAtEnd_void {s : State} (fits : s.OutboundFits) {obs : FrameObs} (void : obs.taken = false) :
    (s.missed obs.rollCall).leasedAtEnd s.closeFrame s.outbound.onLine.isSome obs =
      s.voided obs.rollCall (s.evictees obs.rollCall) := by
  have ousted : (if (s.missed obs.rollCall).toEvict.isEmpty then s.missed obs.rollCall
      else (s.missed obs.rollCall).evict (s.missed obs.rollCall).toEvict) =
      s.ousted obs.rollCall (s.evictees obs.rollCall) := if_congr List.isEmpty_iff rfl rfl
  have ended : (if s.outbound.onLine.isSome then (s.ousted obs.rollCall (s.evictees obs.rollCall)).endAttempt true
      else s.ousted obs.rollCall (s.evictees obs.rollCall)) = s.attemptEnded obs.rollCall (s.evictees obs.rollCall) := by
    split
    · rfl
    · rename_i idle
      have none_on : (s.ousted obs.rollCall (s.evictees obs.rollCall)).outbound.onLine = none := by
        rw [State.ousted_onLine fits, Option.not_isSome_iff_eq_none.mp idle, Option.filter_none]
      simp only [State.attemptEnded, State.endAttempt, none_on]
  unfold State.leasedAtEnd
  simp only [void, Bool.not_false, Bool.and_true, Bool.and_false, Bool.false_eq_true, if_false, ousted, ended]
  rfl

/-- R53, R62: the rest of a VOID frame end at a member. -/
theorem State.finishMember_void {s : State} {obs : FrameObs} (inv : s.Inv) (tracks : s.station.tracksCensus = true)
    (void : obs.taken = false) :
    (s.missed obs.rollCall).finishMember s.closeFrame s.outbound.onLine.isSome obs = s.voidEnd obs.rollCall := by
  have fits : s.OutboundFits := by
    obtain ⟨-, -, -, -, fits, -⟩ := inv
    exact fits
  have reaches := State.mem_reachingE inv.listed.1.nodup (inv.own_mem_roster tracks) obs.rollCall
  rw [← State.voided_missesOf obs.rollCall (s.own_notMem_evictees obs.rollCall)] at reaches
  have limit : (s.voided obs.rollCall (s.evictees obs.rollCall)).evictAt = s.evictAt :=
    congrArg (fun c : ConfigSet => c.evict.toNat) (State.voided_config _ _ _)
  have detail : (s.missed obs.rollCall).rosterDetail s.closeFrame obs = (s.evictees obs.rollCall).min? := by
    unfold State.rosterDetail State.evictees
    rw [void]
    cases (s.missed obs.rollCall).toEvict.min? <;> rfl
  rw [State.finishMember_eq, State.leasedAtEnd_void fits void, limit, State.voided_own, detail]
  exact if_congr reaches.symm rfl rfl

/-- R47: the end of a VOID frame at a member. -/
theorem State.exec_frameEnd_void {s : State} {obs : FrameObs} (inv : s.Inv) (tracks : s.station.tracksCensus = true)
    (frame : s.line.tracking = .frame) (void : obs.taken = false) (who : s.HearsOther obs ∨ ∃ k, s.AttemptRuns obs k) :
    exec (.frameEnd obs) s =
      .next ((s.voidEnd obs.rollCall).raiseForeignFor (s.foreignJoin obs.cells) obs.cells.sender) := by
  have settled := State.settled_of_heard who
  have closed : s.settledFrame obs.cells = s.closeFrame := congrArg State.closeFrame settled
  have unparked : (s.missed obs.rollCall).station ≠ .parked := by
    intro parked
    rw [show s.station = .parked from parked] at tracks
    contradiction
  refine congrArg Host.Outcome.next ?_
  rw [State.frameEnd_eq frame, settled, closed, State.handOn_member (s := s.closeFrame) _ _ tracks,
    State.ownAttempt_eq_isSome who, ← State.finishMember_void inv tracks void]
  unfold State.memberFrameEnd
  simp only [void, Bool.false_eq_true, if_false]
  rw [show s.closeFrame.countMisses obs.rollCall = s.missed obs.rollCall from rfl, if_neg unparked]
  rfl

end Sys2Proof.Machine
end

section
/-! SUPPORT. The census state and the entries after a VOID frame end (R69, R70, R82, R87, R93, R94, R112, R114). -/

namespace Sys2Proof.Machine

set_option Elab.async false

/-! ### The census state after the evictions (R82, R93) -/

/-- R52: the roster unit that the census state is computed from. -/
theorem State.missed_drop {s : State} (listed : StationSet.Listed s.roster.synced) (rollCall gone : StationSet) :
    (s.missed rollCall).roster.drop gone =
      { members := (s.roster.members.map (Member.afterRollCall rollCall)).filter fun m => !gone.contains m.number
        synced := s.roster.synced.filter fun j => !gone.contains j
        clash := s.roster.clash } := by
  rw [RosterUnit.drop, show (s.missed rollCall).roster.synced = s.roster.synced from rfl, setDiff_of_listed listed]
  rfl

/-- R93: with a joiner left the run is reset, and the designated sender chosen among those who stay. -/
theorem State.ousted_census_reset {s : State} (listed : StationSet.Listed s.roster.roster)
    (listed' : StationSet.Listed s.roster.synced) (rollCall : StationSet) {gone : StationSet} (someone : gone ≠ [])
    (frozen : s.census.joiners ≠ []) (left : setDiff s.census.joiners gone ≠ []) :
    let passOver := setDiff s.census.passOver gone
    let members := (s.roster.members.map (Member.afterRollCall rollCall)).filter fun m => !gone.contains m.number
    let synced := s.roster.synced.filter fun j => !gone.contains j
    let pool := if synced = [] then members.map Member.number else synced
    let passed := if pool.all passOver.contains = true then [] else passOver
    (s.ousted rollCall gone).census =
      { joiners := setDiff s.census.joiners gone, passOver := passed, progress := 0, runCount := none,
        designated := (pool.filter fun j => !passed.contains j).head?, staging := s.census.staging } := by
  intro passOver members synced pool passed
  have unit := State.missed_drop listed' rollCall gone
  have stays : StationSet.Listed ((s.missed rollCall).roster.drop gone).roster := by
    rw [RosterUnit.drop_roster, State.missed_roster]
    exact listed.filter _
  rw [unit] at stays
  have freeze : (s.missed rollCall).census.freeze = true := Census.freeze_eq_true.mpr frozen
  have on : ((s.missed rollCall).census.without gone).freeze = true := Census.freeze_eq_true.mpr left
  rw [State.ousted_census, if_neg someone, State.evict_census, if_pos freeze, if_pos on, unit]
  exact Census.redesignated_of_freeze (c := { (s.missed rollCall).census.without gone with progress := 0, runCount := none })
    on stays (listed'.filter _)

/-- R93: without a joiner left the census ends. -/
theorem State.ousted_census_end {s : State} (rollCall : StationSet) {gone : StationSet} (someone : gone ≠ [])
    (frozen : s.census.joiners ≠ []) (nobody : setDiff s.census.joiners gone = []) :
    (s.ousted rollCall gone).census =
      { joiners := [], passOver := [], progress := 0, runCount := none, designated := none, staging := s.census.staging } := by
  have freeze : (s.missed rollCall).census.freeze = true := Census.freeze_eq_true.mpr frozen
  have off : ((s.missed rollCall).census.without gone).freeze = false := Census.freeze_eq_false.mpr nobody
  rw [State.ousted_census, if_neg someone, State.evict_census, if_pos freeze, off, if_neg Bool.false_ne_true]
  rfl

/-- R52: with the freeze off the evicted leave the pass-over set and no more. -/
theorem State.ousted_census_open {s : State} (census : s.CensusFits) (rollCall : StationSet) {gone : StationSet}
    (someone : gone ≠ []) (free : s.census.joiners = []) :
    (s.ousted rollCall gone).census = { s.census with passOver := setDiff s.census.passOver gone } := by
  have off : s.census.freeze = false := Census.freeze_eq_false.mpr free
  have none_owed : setDiff s.census.joiners gone = [] := by
    rw [free]
    simp [setDiff, setOf]
  have off' : ((s.missed rollCall).census.without gone).freeze = false := Census.freeze_eq_false.mpr none_owed
  rw [State.ousted_census, if_neg someone, State.evict_census, show (s.missed rollCall).census.freeze = false from off,
    if_neg Bool.false_ne_true, Census.redesignated_of_open off', ← census.1 off]
  simp only [Census.without, State.missed, State.closeFrame, State.countMisses, none_owed, ← free]

/-! ### The entries after a VOID frame end (R69, R70, R87, R94, R112) -/

section
variable {s : State} (inv : s.Inv) {rollCall gone : StationSet} (stays : s.own ∉ gone)
include inv stays

/-- R69, R70, R73, R87, R94, R112: an entry after a VOID frame end is one that stood, was not moot and had no withdrawal
waiting, as the end of the attempt returns it, or a new one that the reset or the end of the census brings. -/
theorem State.mem_voided {x : Entry} (hx : x ∈ (s.voided rollCall gone).outbound.entries) :
    (∃ y ∈ s.outbound.entries, s.mootAtVoid gone y.kind = false ∧ (y.onLine = true → y.withdrawn = false) ∧
      x = y.returned true) ∨
    (gone ≠ [] ∧ s.census.joiners ≠ [] ∧ (x = Entry.fresh (.census 0) ∨
      ∃ k, x = Entry.fresh (.expire k) ∧ 0 < (s.attemptEnded rollCall gone).table.countOf k)) := by
  obtain ⟨-, wf, -, -, fits, -⟩ := inv
  obtain ⟨old, kept⟩ | ⟨⟨frozen, ended, -⟩, k, new, owns⟩ := State.mem_leaseWork_cases hx
  · rw [State.attemptEnded_entries fits] at old
    rcases List.mem_append.mp old with was | part
    · obtain ⟨y, hy, rfl⟩ := List.mem_map.mp was
      obtain ⟨held, both⟩ := List.mem_filter.mp hy
      simp only [Bool.and_eq_true, Bool.not_eq_true', Bool.and_eq_false_iff] at both
      obtain ⟨unousted, waits⟩ := both
      refine .inl ⟨y, held, ?_, fun on => waits.resolve_left (by simp [on]), rfl⟩
      rw [State.mootAtVoid_eq wf rollCall stays, unousted, ← Entry.returned_kind true y, kept]
      rfl
    · obtain ⟨new, someone, frozen⟩ := State.mem_oustedPart part
      exact .inr ⟨someone, Census.freeze_eq_true.mp frozen, .inl new⟩
  · refine .inr ⟨fun nobody => ?_, Census.freeze_eq_true.mp frozen, .inr ⟨k, new, owns⟩⟩
    rw [State.attemptEnded_frame, nobody] at ended
    simp only [State.ousted_census, if_pos] at ended
    rw [frozen] at ended
    contradiction

/-- R112: an entry that is not moot and whose withdrawal does not wait stands after a VOID frame end. -/
theorem State.mem_voided_of_stays {y : Entry} (held : y ∈ s.outbound.entries) (kept : s.mootAtVoid gone y.kind = false)
    (unwithdrawn : y.withdrawn = false) : y.returned true ∈ (s.voided rollCall gone).outbound.entries := by
  obtain ⟨-, wf, -, -, fits, -⟩ := inv
  rw [State.mootAtVoid_eq wf rollCall stays, Bool.or_eq_false_iff] at kept
  refine State.mem_leaseWork_of_stays ?_ (by rw [Entry.returned_kind]; exact kept.2)
  rw [State.attemptEnded_entries fits]
  exact List.mem_append_left _ (List.mem_map_of_mem (List.mem_filter.mpr ⟨held, by simp [kept.1, unwithdrawn]⟩))

/-- R112, R114: an attempt that stays short of T, is moot or is withdrawn exhausts no entry. -/
theorem State.voided_retries (left : s.station ≠ .config)
    (short : ∀ e, s.outbound.onLine = some e → s.AttemptStays gone e) :
    ∀ x ∈ (s.voided rollCall gone).outbound.entries, x.retries < s.retryLimit := by
  intro x hx
  have new := State.mem_voided inv stays hx
  obtain ⟨config, -, -, -, fits, -⟩ := inv
  obtain ⟨-, -, -, below, -⟩ := id fits
  have limit : 0 < s.retryLimit := lt_of_lt_of_le (by norm_num) (config.bounds left).2.2.2.2
  obtain ⟨y, held, kept, unwithdrawn, rfl⟩ | ⟨-, -, rfl | ⟨k, rfl, -⟩⟩ := new
  · cases on : y.onLine
    · simpa [Entry.returned, on] using below y held
    · obtain ⟨e, sent⟩ := Option.isSome_iff_exists.mp (List.find?_isSome.mpr ⟨y, held, on⟩)
      obtain rfl := fits.eq_of_onLine sent held on
      have count := (short y sent).resolve_left (by simp [unwithdrawn on])
      simpa [Entry.returned, on] using count.resolve_left (by simp [kept])
  · exact limit
  · exact limit

end

end Sys2Proof.Machine
end

section
/-! A VOID frame end at a member (R24, R51, R52, R62, R63, R66, R69, R70, R76, R82, R87, R93, R94, R112, R141). -/

namespace Sys2Proof.Machine

set_option Elab.async false

/-! ### The leases after a VOID frame end (R66) -/

/-- R66: the peers without a lease. -/
theorem State.LeasesFit.leaseOf_inactive_iff {s : State} (h : s.LeasesFit) (k : Nat) :
    s.lease.leaseOf k = .inactive ↔
      ¬(s.station = .synced ∧ k < Config.stationNumbers ∧ k ≠ s.own ∧ 0 < s.table.countOf k) := by
  obtain ⟨peers, timers⟩ := h
  have held : (∃ l ∈ s.lease.leases, l.peer = k) ↔
      s.station = .synced ∧ k < Config.stationNumbers ∧ k ≠ s.own ∧ 0 < s.table.countOf k := by
    rw [← List.mem_map, peers]
    split
    · rename_i synced
      simp [mem_setOf, synced]
    · rename_i other
      simp [other]
  rw [← held]
  unfold LeaseUnit.leaseOf
  cases found : s.lease.leases.find? fun x => x.peer == k with
  | none =>
    have nobody := List.find?_eq_none.mp found
    simpa using nobody
  | some l =>
    have mem := List.mem_of_find?_eq_some found
    have peer : l.peer = k := by simpa using List.find?_some found
    exact iff_of_false (timers l mem) (not_not.mpr ⟨l, mem, peer⟩)

theorem State.voided_table (s : State) (rollCall gone : StationSet) :
    (s.voided rollCall gone).table = (s.attemptEnded rollCall gone).table := by
  rw [State.voided_frame, State.attemptEnded_frame]

/-- R24: who owns records after the evictions. -/
theorem State.voided_owner {s : State} (wf : s.table.Wf) (rollCall gone : StationSet) (k : Nat) :
    (∃ r ∈ (s.voided rollCall gone).table.requests, r.owner = k) ↔ k ∉ gone ∧ ∃ r ∈ s.table.requests, r.owner = k := by
  have owner := State.attemptEnded_owner wf rollCall gone k
  rw [Bool.eq_iff_iff] at owner
  rw [State.voided_table]
  simp only [List.any_eq_true, Bool.and_eq_true, beq_iff_eq, Bool.not_eq_true', List.contains_eq_mem, decide_eq_false_iff_not]
    at owner
  exact owner.trans ⟨fun ⟨r, hr, owns, other⟩ => ⟨other, r, hr, owns⟩, fun ⟨other, r, hr, owns⟩ => ⟨r, hr, owns, other⟩⟩

/-- R66: every peer that owns records after the evictions keeps its lease, and no other has one. -/
theorem State.voided_leaseOf {s : State} (inv : s.Inv) (tracks : s.station.tracksCensus = true) (rollCall gone : StationSet)
    (k : Nat) :
    (s.voided rollCall gone).lease.leaseOf k =
      if ∃ r ∈ (s.voided rollCall gone).table.requests, r.owner = k then s.lease.leaseOf k else .inactive := by
  obtain ⟨-, wf, place, -, -, -, -, -, -, leases⟩ := inv
  have owner := State.voided_owner wf rollCall gone k
  have inactive := leases.leaseOf_inactive_iff k
  have lease : (s.attemptEnded rollCall gone).lease.leaseOf k = s.lease.leaseOf k := by
    rw [State.attemptEnded_frame]
    rfl
  have after := State.leaseWork_leaseOf none none false s.census.freeze (s.attemptEnded rollCall gone) k
  rw [State.attemptEnded_own] at after
  have pos := Table.countOf_pos (s.attemptEnded rollCall gone).table k
  rw [← State.voided_table] at pos
  refine after.trans ?_
  by_cases owns : ∃ r ∈ (s.voided rollCall gone).table.requests, r.owner = k
  · obtain ⟨-, r, hr, owned⟩ := owner.mp owns
    have small : k < Config.stationNumbers := owned ▸ (wf.1.1 r hr).1
    have synced : s.station = .synced := by
      by_contra other
      have clear : s.table = Table.cleared := place (by
        revert tracks other; cases s.station <;> simp [StationState.tracksCensus, StationState.holdsTable])
      rw [clear] at hr
      exact List.not_mem_nil hr
    rw [if_pos owns]
    by_cases mine : k = s.own
    · rw [if_neg fun c => c.2.1 mine, inactive.mpr fun c => c.2.2.1 mine]
    · have runs : s.lease.leaseOf k ≠ .inactive := fun c =>
        inactive.mp c ⟨synced, small, mine, (Table.countOf_pos _ _).mpr ⟨r, hr, owned⟩⟩
      rw [if_pos ⟨small, mine, by rw [← State.voided_table]; exact pos.mpr owns⟩, State.leaseAfter, lease]
      exact if_neg (by simp [runs])
  · rw [if_neg owns, if_neg fun c => owns (pos.mp (by rw [State.voided_table]; exact c.2.2))]

/-- R69: an EXPIRE entry after a VOID frame end names a peer that owns records. -/
theorem State.voided_expire {s : State} (inv : s.Inv) {rollCall gone : StationSet} (stays : s.own ∉ gone) {e : Entry} {k : Nat}
    (he : e ∈ (s.voided rollCall gone).outbound.entries) (expires : e.kind = .expire k) :
    ∃ r ∈ (s.voided rollCall gone).table.requests, r.owner = k := by
  obtain ⟨y, -, kept, -, rfl⟩ | ⟨-, -, rfl | ⟨j, rfl, owns⟩⟩ := State.mem_voided inv stays he
  · obtain ⟨-, wf, -⟩ := inv
    rw [Entry.returned_kind] at expires
    rw [expires, State.mootAtVoid, Bool.not_eq_false', ← State.attemptEnded_owner wf rollCall] at kept
    rw [State.voided_table]
    simpa using kept
  · contradiction
  · obtain rfl := EntryKind.expire.inj expires
    rw [State.voided_table]
    exact (Table.countOf_pos _ _).mp owns

/-! ### The CENSUS and JOIN entries after a VOID frame end (R87, R93, R94) -/

/-- R87: the CENSUS entries after a VOID frame end: those held, as the end of the attempt returns them, and the new one of a
run that was reset. -/
theorem State.voided_parts {s : State} (fits : s.OutboundFits) (rollCall gone : StationSet) :
    ((s.voided rollCall gone).outbound.entries.filter fun e => e.kind.isCensus) =
      ((s.outbound.entries.filter fun x => !s.oustsKind gone x.kind && !(x.onLine && x.withdrawn)).map
        (Entry.returned true)).filter (fun e => e.kind.isCensus) ++ s.oustedPart rollCall gone := by
  have part : (s.oustedPart rollCall gone).filter (fun e => e.kind.isCensus) = s.oustedPart rollCall gone := by
    rw [State.oustedPart_eq]
    split <;> rfl
  rw [State.voided, State.leaseWork_filter (p := EntryKind.isCensus) (fun _ => rfl) rfl, State.attemptEnded_entries fits,
    List.filter_append, part]

/-- R87, R93: under the freeze an eviction leaves no CENSUS entry but the new one of the run that it resets. -/
theorem State.voided_parts_of_reset {s : State} (fits : s.OutboundFits) (rollCall : StationSet) {gone : StationSet}
    (someone : gone ≠ []) (frozen : s.census.joiners ≠ []) :
    ((s.voided rollCall gone).outbound.entries.filter fun e => e.kind.isCensus) = s.oustedPart rollCall gone := by
  rw [State.voided_parts fits]
  refine (congrArg (· ++ _) (List.filter_eq_nil_iff.mpr fun x hx census => ?_)).trans (List.nil_append _)
  obtain ⟨y, hy, rfl⟩ := List.mem_map.mp hx
  rw [Entry.returned_kind] at census
  have kept := (List.mem_filter.mp hy).2
  simp [State.oustsKind, State.restartsKind, census, someone, Census.freeze_eq_true.mpr frozen] at kept

/-- R87: with the freeze off, or with nobody evicted, the CENSUS entries stand as they did. -/
theorem State.voided_parts_of_open {s : State} (fits : s.OutboundFits) (rollCall : StationSet) {gone : StationSet}
    (still : gone = [] ∨ s.census.joiners = []) (other : ∀ e, s.outbound.onLine = some e → e.kind.isCensus = false) :
    ((s.voided rollCall gone).outbound.entries.filter fun e => e.kind.isCensus) =
      s.outbound.entries.filter fun e => e.kind.isCensus := by
  have not_reset : ¬(gone ≠ [] ∧ s.census.freeze = true) := fun ⟨someone, frozen⟩ =>
    still.elim someone (Census.freeze_eq_true.mp frozen)
  have kept : ∀ k, s.oustsKind gone k = false := fun k => by
    by_contra ousts
    simp only [State.oustsKind, Bool.not_eq_false, Bool.and_eq_true, Bool.not_eq_true'] at ousts
    exact not_reset ⟨by simpa using ousts.1.1, ousts.1.2⟩
  have no_part : s.oustedPart rollCall gone = [] := if_neg not_reset
  have off : ∀ x ∈ s.outbound.entries, x.kind.isCensus = true → x.onLine = false := fun x hx census => by
    by_contra on
    obtain ⟨e, sent⟩ := Option.isSome_iff_exists.mp (List.find?_isSome.mpr ⟨x, hx, by simpa using on⟩)
    rw [fits.eq_of_onLine sent hx (by simpa using on), other e sent] at census
    contradiction
  rw [State.voided_parts fits, no_part, List.append_nil, List.filter_map, List.filter_filter]
  have same : (s.outbound.entries.filter fun x => ((fun e : Entry => e.kind.isCensus) ∘ Entry.returned true) x &&
      (!s.oustsKind gone x.kind && !(x.onLine && x.withdrawn))) = s.outbound.entries.filter fun e => e.kind.isCensus := by
    refine List.filter_congr fun x hx => ?_
    simp only [Function.comp_apply, Entry.returned_kind, kept]
    cases census : x.kind.isCensus
    · rfl
    · simp [off x hx census]
  rw [same]
  refine (List.map_congr_left fun x hx => ?_).trans (List.map_id _)
  obtain ⟨held, census⟩ := List.mem_filter.mp hx
  simp [Entry.returned, off x held census]

/-- R94: under the freeze an eviction leaves a SYNCING station no JOIN entry. -/
theorem State.voided_no_join {s : State} (inv : s.Inv) {rollCall gone : StationSet} (stays : s.own ∉ gone)
    (syncing : s.station = .syncing) (someone : gone ≠ []) (frozen : s.census.joiners ≠ []) :
    ∀ e ∈ (s.voided rollCall gone).outbound.entries, e.kind.isJoin = false := by
  intro e he
  obtain ⟨y, -, kept, -, rfl⟩ | ⟨-, -, rfl | ⟨_, rfl, -⟩⟩ := State.mem_voided inv stays he
  · rw [Entry.returned_kind]
    cases x : y.kind with
    | join pass => simp [x, State.mootAtVoid, someone, syncing, Census.freeze_eq_true.mpr frozen] at kept
    | _ => rfl
  · rfl
  · rfl

/-! ### The VOID frame end of a station that is neither out nor exhausted -/

/-- R62, R63: the sources at a VOID frame end that evicts these stations. -/
def State.voidAttention (s : State) (gone : StationSet) (c : FrameCells) : Attention :=
  { s.attention with
    roster := match gone.head? with
      | none => s.attention.roster
      | some k => { pending := true, detail := BitVec.ofNat 8 k }
    foreign := if s.foreignJoin c = true then { pending := true, detail := BitVec.ofNat 8 c.sender }
      else s.attention.foreign }

theorem State.raiseRosterFor_eq (d : Option Nat) (v : State) :
    v.raiseRosterFor d = { v with attention := { v.attention with
      roster := match d with
        | none => v.attention.roster
        | some k => { pending := true, detail := BitVec.ofNat 8 k } } } := by
  cases d <;> rfl

theorem State.raiseForeignFor_eq (b : Bool) (k : Nat) (v : State) :
    v.raiseForeignFor b k = { v with attention := { v.attention with
      foreign := if b = true then { pending := true, detail := BitVec.ofNat 8 k } else v.attention.foreign } } := by
  cases b <;> rfl

theorem State.raised_attention (v : State) (d : Option Nat) (b : Bool) (k : Nat) :
    (v.raiseRosterFor d).raiseForeignFor b k = { v with attention := { v.attention with
      roster := match d with
        | none => v.attention.roster
        | some j => { pending := true, detail := BitVec.ofNat 8 j }
      foreign := if b = true then { pending := true, detail := BitVec.ofNat 8 k } else v.attention.foreign } } := by
  rw [State.raiseForeignFor_eq, State.raiseRosterFor_eq]

/-- The lowest number of a part of a listed set is the first. -/
theorem StationSet.Listed.min?_eq_head?_of_sublist {a b : StationSet} (h : StationSet.Listed a) (sub : b.Sublist a) :
    b.min? = b.head? := by
  have ascending : a.Pairwise (· < ·) := by
    rw [h]
    exact List.pairwise_lt_range.sublist List.filter_sublist
  exact List.min?_eq_head? ((ascending.sublist sub).imp fun lt => Nat.min_eq_left (Nat.le_of_lt lt))

theorem State.reachingE_sublist (s : State) (rollCall : StationSet) : (s.reachingE rollCall).Sublist s.roster.roster := by
  rw [← State.missed_roster s rollCall]
  exact List.filter_sublist.map _

/-- R47, R62, R63, R114: the end of a VOID frame at a member short of E misses whose own attempt exhausts nothing. -/
theorem State.exec_frameEnd_void_stays {s : State} {obs : FrameObs} (inv : s.Inv) (tracks : s.station.tracksCensus = true)
    (frame : s.line.tracking = .frame) (void : obs.taken = false) (who : s.HearsOther obs ∨ ∃ k, s.AttemptRuns obs k)
    (short : s.own ∉ s.reachingE obs.rollCall)
    (attempt : ∀ e, s.outbound.onLine = some e → s.AttemptStays (s.reachingE obs.rollCall) e) :
    exec (.frameEnd obs) s = .next { s.voided obs.rollCall (s.reachingE obs.rollCall) with
      attention := s.voidAttention (s.reachingE obs.rollCall) obs.cells } := by
  have left : s.station ≠ .config := by
    intro c
    rw [c] at tracks
    contradiction
  have retries := State.voided_retries inv short left attempt (rollCall := obs.rollCall)
  have config := s.voided_config obs.rollCall (s.reachingE obs.rollCall)
  have attention : (s.voided obs.rollCall (s.reachingE obs.rollCall)).attention = s.attention := by
    rw [State.voided_frame]
    rfl
  rw [State.exec_frameEnd_void inv tracks frame void who, State.voidEnd, State.evictees_eq inv tracks short, if_neg short,
    inv.listed.1.min?_eq_head?_of_sublist (s.reachingE_sublist obs.rollCall)]
  generalize s.voided obs.rollCall (s.reachingE obs.rollCall) = v at retries config attention ⊢
  have unexhausted : (v.raiseRosterFor (s.reachingE obs.rollCall).head?).actOnExhaustion =
      v.raiseRosterFor (s.reachingE obs.rollCall).head? := by
    refine State.actOnExhaustion_of_lt ?_
    rw [State.raiseRosterFor_frame]
    intro e he
    exact lt_of_lt_of_eq (retries e he) (congrArg (fun c : ConfigSet => c.retry.toNat) config.symm)
  rw [unexhausted, State.raised_attention, attention]
  rfl

/-! ### The obligation -/

/-- Settles O52: the frame end is `voided`, whose census state is by `ousted_census_reset`, `ousted_census_end` and
`ousted_census_open`, its leases by `voided_leaseOf` and its entries by `voided_parts` and `mem_voided`. -/
theorem voidFrameEndCountsMisses : Obligations.VoidFrameEndCountsMisses := by
  unfold Obligations.VoidFrameEndCountsMisses
  intro obs s inv member frame void short out who joiners passOver members synced pool passed
  have tracks := State.tracksCensus_of_member member
  have heard : s.HearsOther obs ∨ ∃ k, s.AttemptRuns obs k := who.imp_right fun ⟨e, _, runs, _⟩ => ⟨e.kind, runs⟩
  have attempt : ∀ e, s.outbound.onLine = some e → s.AttemptStays out e := fun e sent => by
    obtain ⟨idle, -⟩ | ⟨x, on, -, stays⟩ := who
    · rw [idle] at sent
      contradiction
    · exact Option.some.inj (on.symm.trans sent) ▸ stays
  have run := State.exec_frameEnd_void_stays inv tracks frame void heard short attempt
  have core : s.CoreFits := inv.cellInv.toCoreFits
  obtain ⟨listed, listed'⟩ := inv.listed
  obtain ⟨-, -, -, -, fits, -, census, -⟩ := id inv
  have whole := s.voided_frame obs.rollCall out
  have unit := State.ousted_roster listed' obs.rollCall out
  have state : (s.voided obs.rollCall out).census = (s.ousted obs.rollCall out).census := (congrArg State.census whole :)
  have window : (s.voided obs.rollCall out).lease.window =
      if out ≠ [] ∧ s.census.freeze = true ∧ s.station = .syncing then .running s.durations.window else s.lease.window := by
    rw [State.voided, State.leaseWork_window, State.attemptEnded_frame]
  have same (still : out = [] ∨ s.census.joiners = []) : (s.voided obs.rollCall out).lease.window = s.lease.window :=
    window.trans (if_neg fun ⟨someone, frozen, _⟩ => still.elim someone (Census.freeze_eq_true.mp frozen))
  refine ⟨_, run, (congrArg State.station whole :), (congrArg State.table whole :),
    (congrArg State.roster whole :).trans unit,
    fun nobody => state.trans ((State.ousted_census _ _ _).trans (if_pos nobody)),
    fun someone frozen left => state.trans (State.ousted_census_reset listed listed' _ someone frozen left),
    fun someone frozen ended => state.trans (State.ousted_census_end _ someone frozen ended),
    fun someone free => state.trans (State.ousted_census_open census _ someone free),
    (congrArg State.slots whole :).trans (State.attemptEnded_slots fits core _ _), State.voided_spent _ _ _, rfl,
    State.voided_leaseOf inv tracks _ _, fun e he k expires => State.voided_expire inv short he expires,
    fun still => ⟨same still, State.voided_parts_of_open fits _ still⟩, fun someone frozen left => ?reset,
    fun someone frozen => ⟨fun there => ?_, fun syncing => ⟨?_, State.voided_no_join inv short syncing someone frozen⟩⟩,
    fun someone frozen ended => ⟨?parts, fun there k reached => ?deferred⟩⟩
  case reset =>
    have freeze : (s.ousted obs.rollCall out).census.freeze = true := by
      rw [State.ousted_census_reset listed listed' _ someone frozen left]
      exact Census.freeze_eq_true.mpr left
    refine (State.voided_parts_of_reset fits _ someone frozen).trans ((State.oustedPart_eq _ _ _).trans ?_)
    refine if_congr ?_ rfl rfl
    change _ ↔ (s.voided obs.rollCall out).census.designated = some s.own
    simp [someone, Census.freeze_eq_true.mpr frozen, freeze, state]
  case parts =>
    have off : (s.ousted obs.rollCall out).census.freeze = false := by
      rw [State.ousted_census_end _ someone frozen ended]
      rfl
    have nothing := State.voided_parts_of_reset fits obs.rollCall someone frozen
    rw [State.oustedPart_eq, if_neg (by simp [off])] at nothing
    simpa using List.filter_eq_nil_iff.mp nothing
  case deferred =>
    have defers : (s.attemptEnded obs.rollCall out).Defers s.census.freeze := by
      rw [State.attemptEnded_frame]
      refine ⟨Census.freeze_eq_true.mpr frozen, ?_, there⟩
      change (s.ousted obs.rollCall out).census.freeze = false
      rw [State.ousted_census_end _ someone frozen ended]
      rfl
    exact State.leaseWork_deferred defers _ _ _ reached
  · exact window.trans (if_neg fun ⟨_, _, syncing⟩ => by rw [there] at syncing; contradiction)
  · exact window.trans (if_pos ⟨someone, Census.freeze_eq_true.mpr frozen, syncing⟩)

end Sys2Proof.Machine
end

section
/-! A station's own trouble at a VOID frame end: its own misses (R53) and its failed attempt (R47, R69, R73, R79, R87, R94,
R112, R114 to R116, R141, R173, R174). -/

namespace Sys2Proof.Machine

set_option Elab.async false

/-! ### The self-restart at a VOID frame end (R53, R174) -/

/-- R134: the station with the withdrawal that waits settled. -/
def State.settledAttempt (s : State) : State :=
  { s with
    slots := s.freedWithAttempt s.slots
    outbound := { s.outbound with entries := s.outbound.entries.filter fun x => !(x.onLine && x.withdrawn) } }

/-- R141: an attempt whose withdrawal does not wait leaves nothing to settle. -/
theorem State.settledAttempt_of_unwithdrawn {s : State} (fits : s.OutboundFits) {e : Entry}
    (sent : s.outbound.onLine = some e) (stays : e.withdrawn = false) : s.settledAttempt = s := by
  have slots : s.freedWithAttempt s.slots = s.slots := by
    cases claim : e.kind with
    | claim k => rw [State.freedWithAttempt_of_claim sent claim, if_neg (by simp [stays])]
    | _ => exact State.freedWithAttempt_of_no_claim (fun x on => by
        rw [← Option.some.inj (sent.symm.trans on), claim]; rfl) _
  have entries : (s.outbound.entries.filter fun x => !(x.onLine && x.withdrawn)) = s.outbound.entries := by
    refine List.filter_eq_self.mpr fun x hx => ?_
    cases on : x.onLine
    · rfl
    · rw [fits.eq_of_onLine sent hx on, stays]
      rfl
  rw [State.settledAttempt, slots, entries]

/-- R145: the slots that a self-restart leaves are the same before and after the grants of R139. -/
theorem State.slotsAfterGrants_settled (s : State) (granted : List RecordRef) :
    (s.slotsAfterGrants granted).map (Slot.settle .out) = s.slots.map (Slot.settle .out) := by
  have each : ∀ p : Slot × Nat,
      (if p.1.state = .waiting ∧ granted.any (fun r => r.owner == s.own && r.tag == p.2) = true then
        { p.1 with state := .granted, reason := none, changed := true, dropWanted := false } else p.1).settle .out =
      p.1.settle .out := by
    intro p
    split
    · rename_i turned
      simp [Slot.settle_out, turned.1]
    · rfl
  rw [State.slotsAfterGrants, List.map_map]
  refine (List.map_congr_left fun p _ => each p).trans ?_
  rw [← Function.comp_def, ← List.map_map, List.zipIdx_map_fst]

/-- R141: what becomes of the slot of a drop-wanted CLAIM does not depend on the other slots. -/
theorem State.freedWithAttempt_settled (s : State) {l l' : List Slot}
    (same : l.map (Slot.settle .out) = l'.map (Slot.settle .out)) :
    (s.freedWithAttempt l).map (Slot.settle .out) = (s.freedWithAttempt l').map (Slot.settle .out) := by
  unfold State.freedWithAttempt
  split
  · exact same
  · split
    · split
      · rw [List.map_set, List.map_set, same]
      · exact same
    · exact same

/-- R145: slots that settle alike keep the same CLAIM entries. -/
theorem State.keepsKind_of_settled {s u : State} (same : u.slots.map (Slot.settle .out) = s.slots.map (Slot.settle .out)) :
    u.keepsKind = s.keepsKind := by
  funext k
  cases k with
  | claim tag =>
    have settled : (u.slotAt tag).settle .out = (s.slotAt tag).settle .out := by
      rw [← State.slotAt_settleSlots, ← State.slotAt_settleSlots]
      simp only [State.slotAt, State.settleSlots, same]
    rw [State.keepsKind, State.keepsKind, ← Slot.settle_queued .out, settled, Slot.settle_queued]
  | _ => rfl

/-- R174: a self-restart, from a station `u` that leaves of `s` what a self-restart keeps. -/
theorem State.selfRestarts_of_kept {s u : State} (cause : OutCause)
    (kinds : (u.outbound.entries.map Entry.kind).filter s.keepsKind = (s.outbound.entries.map Entry.kind).filter s.keepsKind)
    (slots : u.slots.map (Slot.settle .out) = s.slots.map (Slot.settle .out))
    (lease : u.stopTimers.lease = s.stopTimers.lease) (config : u.config = s.config)
    (halt : u.attention.halt = s.attention.halt) (line : u.attention.line = s.attention.line)
    (state : u.attention.state = s.attention.state) (recovers : u.recover.line = s.recover.line) :
    s.SelfRestarts cause.code (u.selfRestart cause) := by
  have kept : (u.giveUp .out).outbound = (s.giveUp .out).outbound := by
    rw [State.giveUp_entries, State.giveUp_entries, State.keepsKind_of_settled slots, kinds]
  refine ⟨rfl, rfl, rfl, rfl, lease, ?_, ?_, recovers, rfl, config, rfl, halt, line, state⟩
  · change u.slots.map (Slot.settle .out) = _
    rw [slots]
    exact List.map_congr_left fun b _ => b.settle_out
  · change (u.giveUp .out).outbound = _
    rw [kept, State.giveUp_entries, ← map_fresh_filter_kind]
    rfl

/-- R77: what stopping the timers leaves of the lease unit is no work of the lease unit. -/
theorem State.leaseWork_stopTimers (renewed expired : Option Nat) (own frozen : Bool) (s : State) :
    (s.leaseWork renewed expired own frozen).stopTimers.lease = s.stopTimers.lease := by
  simp only [State.stopTimers, State.leaseWork_lease]
  obtain ⟨-, h⟩ | ⟨-, -, h⟩ | ⟨-, -, -, h⟩ :=
    State.ownTimersAfter_cases own { s with lease := { s.lease with leases := s.leasesAfter renewed } } <;> rw [h]

theorem State.SelfRestarts.raiseForeignFor {s t : State} {cause : Byte} (h : s.SelfRestarts cause t) (b : Bool) (k : Nat) :
    s.SelfRestarts cause (t.raiseForeignFor b k) := by
  cases b <;> exact h

theorem State.JoinFails.raiseForeignFor {s t : State} (h : s.JoinFails t) (b : Bool) (k : Nat) :
    s.JoinFails (t.raiseForeignFor b k) := by
  cases b <;> exact h

/-- R119: the CLAIM entries after a VOID frame end are those held, but for one whose withdrawal waited. -/
theorem State.voided_claims {s : State} (fits : s.OutboundFits) (rollCall gone : StationSet) {p : EntryKind → Bool}
    (claims : ∀ k, p k = true → ∃ tag, k = .claim tag) :
    ((s.voided rollCall gone).outbound.entries.map Entry.kind).filter p =
      (s.settledAttempt.outbound.entries.map Entry.kind).filter p := by
  have other : ∀ k, (∀ tag, k ≠ .claim tag) → p k = false := fun k no => by
    by_contra yes
    obtain ⟨tag, claim⟩ := claims k (by simpa using yes)
    exact no tag claim
  have part : (s.oustedPart rollCall gone).filter (fun e => p e.kind) = [] :=
    List.filter_eq_nil_iff.mpr fun x hx => by simp [(State.mem_oustedPart hx).1, Entry.fresh, other]
  have kept : (s.outbound.entries.filter fun x => p x.kind && (!s.oustsKind gone x.kind && !(x.onLine && x.withdrawn))) =
      s.outbound.entries.filter fun x => p x.kind && !(x.onLine && x.withdrawn) := by
    refine List.filter_congr fun x _ => ?_
    cases meets : p x.kind
    · rfl
    · obtain ⟨tag, claim⟩ := claims _ meets
      simp [claim, State.oustsKind, State.restartsKind, EntryKind.isCensus, EntryKind.isJoin]
  have work := State.leaseWork_filter (p := p) (fun k => other _ (by simp)) (other _ (by simp)) none none false s.census.freeze
    (s.attemptEnded rollCall gone)
  rw [List.filter_map, List.filter_map]
  refine (congrArg (List.map Entry.kind) work).trans ?_
  rw [State.attemptEnded_entries fits, List.filter_append, part, List.append_nil, List.filter_map, List.map_map,
    List.filter_filter]
  simp only [Function.comp_def, Entry.returned_kind, kept, State.settledAttempt, List.filter_filter]

/-- R53, R174: the self-restart at a VOID frame end, from the station after the lease unit's work. -/
theorem State.voided_selfRestarts {s : State} (fits : s.OutboundFits) (core : s.CoreFits) (rollCall gone : StationSet)
    {a : Attention} (halt : a.halt = s.attention.halt) (line : a.line = s.attention.line) (state : a.state = s.attention.state)
    (cause : OutCause) :
    s.settledAttempt.SelfRestarts cause.code ({ s.voided rollCall gone with attention := a }.selfRestart cause) := by
  have whole := s.voided_frame rollCall gone
  have claims : ∀ k, s.settledAttempt.keepsKind k = true → ∃ tag, k = .claim tag := fun k keeps => by
    cases k with
    | claim tag => exact ⟨tag, rfl⟩
    | _ => contradiction
  refine State.selfRestarts_of_kept cause (State.voided_claims fits rollCall gone claims) ?_ ?_ (s.voided_config rollCall gone)
    halt line state ?_
  · change (s.voided rollCall gone).slots.map (Slot.settle .out) = _
    rw [(congrArg State.slots whole :), State.attemptEnded_slots fits core]
    refine s.freedWithAttempt_settled ?_
    split
    · rfl
    · exact s.slotsAfterGrants_settled _
  · change (s.voided rollCall gone).stopTimers.lease = s.stopTimers.lease
    rw [State.voided, State.leaseWork_stopTimers, State.attemptEnded_frame]
    rfl
  · change (s.voided rollCall gone).recover.line = _
    rw [whole]
    rfl

/-! ### The failed attempt at a VOID frame end, at a member and at a JOINING station (R47, R79, R112) -/

/-- R49: a JOINING station has no members that could come to E. -/
theorem State.Inv.joining_members {s : State} (inv : s.Inv) (joining : s.station = .joining) : s.roster.members = [] := by
  obtain ⟨-, -, -, -, -, ⟨-, -, -, -, away⟩, -⟩ := inv
  exact (away (by rw [joining]; rfl)).1

theorem State.reachingE_of_no_members {s : State} (nobody : s.roster.members = []) (rollCall : StationSet) :
    s.reachingE rollCall = [] := by
  rw [State.reachingE, nobody]
  rfl

/-- R51, R79: a JOINING station counts no misses. -/
theorem State.missed_of_no_members {s : State} (nobody : s.roster.members = []) (rollCall : StationSet) :
    s.missed rollCall = s.closeFrame := by
  have counted : s.roster.countMisses rollCall = s.roster := by
    rw [RosterUnit.countMisses, nobody, List.map_nil, ← nobody]
  exact congrArg (fun r : RosterUnit => { s.closeFrame with roster := r }) counted

/-- R47, R79, R112: the station after a VOID frame end that neither restarts it for its own misses nor exhausts its
attempt: at a JOINING station the end of the attempt is all. -/
def State.attemptFailed (s : State) (rollCall : StationSet) : State :=
  if s.station = .joining then s.attemptEnded rollCall [] else s.voided rollCall (s.reachingE rollCall)

section
variable {s : State} (inv : s.Inv) (drives : s.station = .synced ∨ s.station = .syncing ∨ s.station = .joining)

include drives in
/-- A station that drives the line is a member or JOINING. -/
theorem State.tracks_of_not_joining (member : s.station ≠ .joining) : s.station.tracksCensus = true := by
  rcases drives with h | h | h
  · rw [h]; rfl
  · rw [h]; rfl
  · exact absurd h member

include inv in
theorem State.attemptFailed_frame (rollCall : StationSet) :
    s.attemptFailed rollCall = { s.closeFrame with
      table := if s.reachingE rollCall = [] then s.table else s.table.without fun o _ => (s.reachingE rollCall).contains o
      slots := s.freedWithAttempt (if s.reachingE rollCall = [] then s.slots
        else s.slotsAfterGrants (s.table.grantedWithout fun o _ => (s.reachingE rollCall).contains o))
      roster := (s.ousted rollCall (s.reachingE rollCall)).roster
      census := (s.ousted rollCall (s.reachingE rollCall)).census
      outbound := (s.attemptFailed rollCall).outbound
      lease := (s.attemptFailed rollCall).lease } := by
  have core : s.CoreFits := inv.cellInv.toCoreFits
  have nobody := fun joining => State.reachingE_of_no_members (inv.joining_members joining) rollCall
  obtain ⟨-, -, -, -, fits, -⟩ := inv
  rw [← State.attemptEnded_slots fits core]
  unfold State.attemptFailed
  split
  · rename_i joining
    rw [nobody joining]
    conv_lhs => rw [State.attemptEnded_frame]
    conv_rhs => rw [State.attemptEnded_frame]
  · exact s.voided_frame _ _

include inv in
/-- R69, R73, R87, R94: no entry of a JOINING station becomes moot. -/
theorem State.mootAtVoid_joining (joining : s.station = .joining) {y : Entry} (held : y ∈ s.outbound.entries) :
    s.mootAtVoid [] y.kind = false := by
  obtain ⟨-, -, -, -, -, -, -, -, places, -⟩ := inv
  obtain ⟨place, -⟩ := places y held
  rw [joining] at place
  revert place
  cases y.kind <;> simp [EntryKind.heldIn, State.mootAtVoid, StationState.tracksCensus]

include inv in
/-- R112: the entries after the failed attempt of a station that evicts nobody. -/
theorem State.attemptEnded_entries_of_nobody (rollCall : StationSet) :
    (s.attemptEnded rollCall []).outbound.entries =
      (s.outbound.entries.filter fun x => !(x.onLine && x.withdrawn)).map (Entry.returned true) := by
  obtain ⟨-, -, -, -, fits, -⟩ := inv
  rw [State.attemptEnded_entries fits, State.oustedPart_eq]
  simp [State.oustsKind]

include inv in
/-- R69, R73, R87, R94, R112: an entry after a VOID frame end is one that stood, was not moot and had no withdrawal
waiting, as the end of the attempt returns it, or a new one of a run that was reset or ended. -/
theorem State.mem_attemptFailed {rollCall : StationSet} (stays : s.own ∉ s.reachingE rollCall) {x : Entry}
    (hx : x ∈ (s.attemptFailed rollCall).outbound.entries) :
    (∃ y ∈ s.outbound.entries, s.mootAtVoid (s.reachingE rollCall) y.kind = false ∧
      (y.onLine = true → y.withdrawn = false) ∧ x = y.returned true) ∨
    (s.reachingE rollCall ≠ [] ∧ s.census.joiners ≠ [] ∧ ∃ k, x = Entry.fresh k) := by
  unfold State.attemptFailed at hx
  split at hx
  · rename_i joining
    rw [State.attemptEnded_entries_of_nobody inv] at hx
    obtain ⟨y, hy, rfl⟩ := List.mem_map.mp hx
    obtain ⟨held, waits⟩ := List.mem_filter.mp hy
    rw [State.reachingE_of_no_members (inv.joining_members joining)]
    exact .inl ⟨y, held, State.mootAtVoid_joining inv joining held, fun on => by simpa [on] using waits, rfl⟩
  · refine (State.mem_voided inv stays hx).imp_right fun ⟨someone, frozen, new⟩ => ⟨someone, frozen, ?_⟩
    exact new.elim (fun new => ⟨_, new⟩) fun ⟨_, new, _⟩ => ⟨_, new⟩

include inv in
/-- R112: an entry that is not moot and whose withdrawal does not wait stands after a VOID frame end. -/
theorem State.mem_attemptFailed_of_stays {rollCall : StationSet} (stays : s.own ∉ s.reachingE rollCall) {y : Entry}
    (held : y ∈ s.outbound.entries) (kept : s.mootAtVoid (s.reachingE rollCall) y.kind = false)
    (unwithdrawn : y.withdrawn = false) : y.returned true ∈ (s.attemptFailed rollCall).outbound.entries := by
  unfold State.attemptFailed
  split
  · rw [State.attemptEnded_entries_of_nobody inv]
    exact List.mem_map_of_mem (List.mem_filter.mpr ⟨held, by simp [unwithdrawn]⟩)
  · exact State.mem_voided_of_stays inv stays held kept unwithdrawn

theorem Entry.returned_onLine (counted : Bool) (y : Entry) : (y.returned counted).onLine = false := by
  cases on : y.onLine <;> simp [Entry.returned, on]

theorem State.attemptFailed_spent (s : State) (rollCall : StationSet) :
    (s.attemptFailed rollCall).outbound.spent = s.outbound.spent := by
  unfold State.attemptFailed
  split
  · rw [State.attemptEnded, State.endAttempt_spent, State.ousted_spent]
  · exact s.voided_spent _ _

include inv in
/-- R47, R112: no attempt is on the line after a VOID frame end. -/
theorem State.attemptFailed_onLine {rollCall : StationSet} (stays : s.own ∉ s.reachingE rollCall) :
    (s.attemptFailed rollCall).outbound.onLine = none := by
  refine List.find?_eq_none.mpr fun x hx => ?_
  obtain ⟨y, -, -, -, rfl⟩ | ⟨-, -, k, rfl⟩ := State.mem_attemptFailed inv stays hx
  · simp [Entry.returned_onLine]
  · exact Bool.false_ne_true

include inv in
/-- R141: an attempt that is moot or whose withdrawal waits leaves no entry of its kind but a new one. -/
theorem State.attemptFailed_settles {rollCall : StationSet} (stays : s.own ∉ s.reachingE rollCall) {e x : Entry}
    (sent : s.outbound.onLine = some e) (gone : e.withdrawn = true ∨ s.mootAtVoid (s.reachingE rollCall) e.kind = true)
    (hx : x ∈ (s.attemptFailed rollCall).outbound.entries) (kind : x.kind = e.kind) :
    s.reachingE rollCall ≠ [] ∧ s.census.joiners ≠ [] ∧ x.retries = 0 ∧ x.onLine = false := by
  obtain ⟨y, held, kept, unwithdrawn, rfl⟩ | ⟨someone, frozen, k, rfl⟩ := State.mem_attemptFailed inv stays hx
  · rw [Entry.returned_kind] at kind
    obtain ⟨-, -, -, -, fits, -⟩ := inv
    cases on : y.onLine
    · have apart := fits.not_answers sent held on
      rw [kind, EntryKind.answers_self] at apart
      contradiction
    · obtain rfl := fits.eq_of_onLine sent held on
      rw [kept, unwithdrawn on] at gone
      simp at gone
  · exact ⟨someone, frozen, rfl, rfl⟩

include inv in
/-- R112, R114: the counts below T after a VOID frame end. -/
theorem State.attemptFailed_retries {rollCall : StationSet} (left : s.station ≠ .config)
    (stays : s.own ∉ s.reachingE rollCall) {x : Entry} (hx : x ∈ (s.attemptFailed rollCall).outbound.entries) :
    x.retries < s.retryLimit ∨ ∃ e, s.outbound.onLine = some e ∧ x = e.returned true ∧ e.withdrawn = false ∧
      s.mootAtVoid (s.reachingE rollCall) e.kind = false := by
  have new := State.mem_attemptFailed inv stays hx
  obtain ⟨config, -, -, -, fits, -⟩ := inv
  obtain ⟨-, -, -, below, -⟩ := id fits
  obtain ⟨y, held, kept, unwithdrawn, rfl⟩ | ⟨-, -, k, rfl⟩ := new
  · cases on : y.onLine
    · exact .inl (by simpa [Entry.returned, on] using below y held)
    · obtain ⟨e, sent⟩ := Option.isSome_iff_exists.mp (List.find?_isSome.mpr ⟨y, held, on⟩)
      obtain rfl := fits.eq_of_onLine sent held on
      exact .inr ⟨y, sent, rfl, unwithdrawn on, kept⟩
  · exact .inl (lt_of_lt_of_le (by norm_num : 0 < 1) (le_trans (by norm_num) (config.bounds left).2.2.2.2))

include inv in
/-- R47, R112, R114: the T-th failure of an attempt exhausts its entry, and no other. -/
theorem State.attemptFailed_exhausted {rollCall : StationSet} (left : s.station ≠ .config)
    (stays : s.own ∉ s.reachingE rollCall) {e : Entry} (sent : s.outbound.onLine = some e) (unwithdrawn : e.withdrawn = false)
    (kept : s.mootAtVoid (s.reachingE rollCall) e.kind = false) (limit : e.retries + 1 = s.retryLimit) :
    (s.attemptFailed rollCall).exhausted = some (e.returned true) := by
  obtain ⟨held, on⟩ := s.outbound.onLine_some e sent
  have config : (s.attemptFailed rollCall).retryLimit = s.retryLimit := by
    rw [State.attemptFailed_frame inv]
    rfl
  have stands := State.mem_attemptFailed_of_stays inv stays held kept unwithdrawn
  have reached : s.retryLimit ≤ (e.returned true).retries := by simp [Entry.returned, on, limit]
  unfold State.exhausted
  rw [config]
  cases found : (s.attemptFailed rollCall).outbound.entries.find? fun x => decide (s.retryLimit ≤ x.retries) with
  | none => exact absurd reached (by simpa using List.find?_eq_none.mp found _ stands)
  | some x =>
    have at_limit : s.retryLimit ≤ x.retries := by simpa using List.find?_some found
    obtain below | ⟨y, sent', rfl, -⟩ := State.attemptFailed_retries inv left stays (List.mem_of_find?_eq_some found)
    · exact absurd at_limit (Nat.not_le.mpr below)
    · rw [Option.some.inj (sent.symm.trans sent')]

include inv drives in
/-- R47, R62, R79, R114: the end of a VOID frame in which the station's own attempt ran, at a station short of E misses of
its own. -/
theorem State.exec_frameEnd_attemptFailed {obs : FrameObs} {k : EntryKind} (frame : s.line.tracking = .frame)
    (void : obs.taken = false) (runs : s.AttemptRuns obs k) (stays : s.own ∉ s.reachingE obs.rollCall) :
    exec (.frameEnd obs) s = .next ((((s.attemptFailed obs.rollCall).raiseRosterFor
      (s.reachingE obs.rollCall).head?).actOnExhaustion).raiseForeignFor (s.foreignJoin obs.cells) obs.cells.sender) := by
  unfold State.attemptFailed
  by_cases joining : s.station = .joining
  · have nobody := inv.joining_members joining
    have settled := State.settled_of_heard (.inr ⟨k, runs⟩)
    have closed : s.settledFrame obs.cells = s.closeFrame := congrArg State.closeFrame settled
    have domestic : s.foreignJoin obs.cells = false := by
      simp [State.foreignJoin, State.judgesContent, joining, StationState.tracksCensus]
    have sent : s.outbound.onLine.isSome = true := by
      obtain ⟨on, -⟩ := runs
      obtain ⟨e, sent, -⟩ := Option.map_eq_some_iff.mp on
      rw [sent]
      rfl
    refine congrArg Host.Outcome.next ?_
    rw [State.frameEnd_eq frame, settled, closed, State.handOn_joining (s := s.closeFrame) _ _ joining,
      State.ownAttempt_eq_isSome (.inr ⟨k, runs⟩), sent, if_pos joining, State.reachingE_of_no_members nobody, domestic,
      State.attemptEnded, State.ousted, if_pos rfl, State.missed_of_no_members nobody]
    simp [State.joiningFrameEnd, void, State.raiseRosterFor, State.raiseForeignFor]
  · have tracks := State.tracks_of_not_joining drives joining
    rw [State.exec_frameEnd_void inv tracks frame void (.inr ⟨k, runs⟩), State.voidEnd, State.evictees_eq inv tracks stays,
      if_neg stays, if_neg joining, inv.listed.1.min?_eq_head?_of_sublist (s.reachingE_sublist obs.rollCall)]

include inv drives in
/-- R53: the end of a VOID frame at a station whose own miss count comes to E. -/
theorem State.exec_frameEnd_ownMisses {obs : FrameObs} (frame : s.line.tracking = .frame) (void : obs.taken = false)
    (who : s.HearsOther obs ∨ ∃ k, s.AttemptRuns obs k) (out : s.own ∈ s.reachingE obs.rollCall) :
    exec (.frameEnd obs) s = .next (((s.voided obs.rollCall (s.evictees obs.rollCall)).selfRestart .ownMisses).raiseForeignFor
      (s.foreignJoin obs.cells) obs.cells.sender) := by
  have member : s.station ≠ .joining := fun joining => by
    rw [State.reachingE_of_no_members (inv.joining_members joining)] at out
    contradiction
  rw [State.exec_frameEnd_void inv (State.tracks_of_not_joining drives member) frame void who, State.voidEnd, if_pos out]

end

/-! ### The exhausted attempt (R114 to R116) -/

/-- R53: the self-restart of a station whose own miss count comes to E. -/
theorem State.ownMisses_restarts {obs : FrameObs} {s : State} (inv : s.Inv)
    (drives : s.station = .synced ∨ s.station = .syncing ∨ s.station = .joining) (frame : s.line.tracking = .frame)
    (void : obs.taken = false) (who : s.HearsOther obs ∨ ∃ k, s.AttemptRuns obs k)
    (out : s.own ∈ s.reachingE obs.rollCall) :
    ∃ t, exec (.frameEnd obs) s = .next t ∧ s.settledAttempt.SelfRestarts 1 t ∧
      t.attention.roster = s.attention.roster ∧
      t.attention.foreign =
        if s.foreignJoin obs.cells = true then { pending := true, detail := BitVec.ofNat 8 obs.cells.sender }
        else s.attention.foreign := by
  have core : s.CoreFits := inv.cellInv.toCoreFits
  have run := State.exec_frameEnd_ownMisses inv drives frame void who out
  have attention : (s.voided obs.rollCall (s.evictees obs.rollCall)).attention = s.attention := by
    rw [State.voided_frame]
    rfl
  obtain ⟨-, -, -, -, fits, -⟩ := inv
  have restarts := State.voided_selfRestarts fits core obs.rollCall (s.evictees obs.rollCall)
    (congrArg Attention.halt attention) (congrArg Attention.line attention) (congrArg Attention.state attention) .ownMisses
  refine ⟨_, run, State.SelfRestarts.raiseForeignFor restarts _ _, ?_, ?_⟩
  · rw [State.raiseForeignFor_eq]
    exact (congrArg Attention.roster attention :)
  · rw [State.raiseForeignFor_eq]
    exact congrArg (fun a : Attention => if s.foreignJoin obs.cells = true
      then { pending := true, detail := BitVec.ofNat 8 obs.cells.sender } else a.foreign) attention

section
variable {obs : FrameObs} {s : State} (inv : s.Inv)
  (drives : s.station = .synced ∨ s.station = .syncing ∨ s.station = .joining) (frame : s.line.tracking = .frame)
  (void : obs.taken = false) {e : Entry} (runs : s.AttemptRuns obs e.kind)
  (stays : s.own ∉ s.reachingE obs.rollCall)
include inv drives frame void runs stays

/-- R47, R112: the end of a VOID frame whose attempt exhausts nothing. -/
theorem State.exec_frameEnd_attemptStays (sent : s.outbound.onLine = some e)
    (short : s.AttemptStays (s.reachingE obs.rollCall) e) :
    exec (.frameEnd obs) s = .next (((s.attemptFailed obs.rollCall).raiseRosterFor
      (s.reachingE obs.rollCall).head?).raiseForeignFor (s.foreignJoin obs.cells) obs.cells.sender) := by
  have left : s.station ≠ .config := by rcases drives with h | h | h <;> rw [h] <;> decide
  have config : (s.attemptFailed obs.rollCall).retryLimit = s.retryLimit := by
    rw [State.attemptFailed_frame inv]
    rfl
  rw [State.exec_frameEnd_attemptFailed inv drives frame void runs stays, State.actOnExhaustion_of_lt]
  rw [State.raiseRosterFor_frame]
  intro x hx
  refine lt_of_lt_of_eq ?_ config.symm
  obtain below | ⟨y, on, rfl, unwithdrawn, kept⟩ := State.attemptFailed_retries inv left stays hx
  · exact below
  · obtain rfl := Option.some.inj (sent.symm.trans on)
    obtain ⟨-, line⟩ := s.outbound.onLine_some e sent
    have count := (short.resolve_left (by simp [unwithdrawn])).resolve_left (by simp [kept])
    simpa [Entry.returned, line] using count

/-- R114 to R116: the end of a VOID frame that is the T-th failure of its attempt. -/
theorem State.exec_frameEnd_exhausts (sent : s.outbound.onLine = some e) (unwithdrawn : e.withdrawn = false)
    (kept : s.mootAtVoid (s.reachingE obs.rollCall) e.kind = false) (limit : e.retries + 1 = s.retryLimit) :
    exec (.frameEnd obs) s = .next ((if e.kind.isJoin = true then
        ((s.attemptFailed obs.rollCall).raiseRosterFor (s.reachingE obs.rollCall).head?).halt .joinFailed
      else ((s.attemptFailed obs.rollCall).raiseRosterFor (s.reachingE obs.rollCall).head?).selfRestart .retries).raiseForeignFor
        (s.foreignJoin obs.cells) obs.cells.sender) := by
  have left : s.station ≠ .config := by rcases drives with h | h | h <;> rw [h] <;> decide
  have exhausted : ((s.attemptFailed obs.rollCall).raiseRosterFor (s.reachingE obs.rollCall).head?).exhausted =
      some (e.returned true) := by
    rw [State.raiseRosterFor_frame]
    exact State.attemptFailed_exhausted inv left stays sent unwithdrawn kept limit
  rw [State.exec_frameEnd_attemptFailed inv drives frame void runs stays,
    State.actOnExhaustion_of_exhausted exhausted, Entry.returned_kind]

end

/-- R53, R114, R174: the self-restart of a station at the T-th failure of an attempt with another frame than a JOIN. -/
theorem State.attemptFailed_restarts {s : State} (inv : s.Inv) (member : s.station ≠ .joining) {e : Entry}
    (sent : s.outbound.onLine = some e) (unwithdrawn : e.withdrawn = false) (rollCall : StationSet) (d : Option Nat) :
    s.SelfRestarts 2 (((s.attemptFailed rollCall).raiseRosterFor d).selfRestart .retries) := by
  have core : s.CoreFits := inv.cellInv.toCoreFits
  have attention : (s.attemptFailed rollCall).attention = s.attention := by
    rw [State.attemptFailed_frame inv]
    rfl
  obtain ⟨-, -, -, -, fits, -⟩ := inv
  have restarts := State.voided_selfRestarts fits core rollCall (s.reachingE rollCall)
    (a := ((s.attemptFailed rollCall).raiseRosterFor d).attention)
  simp only [State.raiseRosterFor_eq, attention, true_implies] at restarts
  have whole := restarts .retries
  rw [State.settledAttempt_of_unwithdrawn fits sent unwithdrawn] at whole
  rw [State.raiseRosterFor_eq, attention, State.attemptFailed, if_neg member]
  exact whole

/-- R119: an exhausted JOIN leaves every other entry where nobody is evicted. -/
theorem State.attemptFailed_others {s : State} (inv : s.Inv) {rollCall : StationSet} (nobody : s.reachingE rollCall = [])
    {e : Entry} (sent : s.outbound.onLine = some e) (unwithdrawn : e.withdrawn = false) (join : e.kind.isJoin = true) :
    ((s.attemptFailed rollCall).outbound.entries.filter fun x => !x.kind.isJoin) =
      s.outbound.entries.filter fun x => !x.kind.isJoin := by
  have none_out : s.own ∉ s.reachingE rollCall := by simp [nobody]
  have ended := State.attemptEnded_entries_of_nobody inv rollCall
  have from_held := fun x => State.mem_attemptFailed inv (x := x) none_out
  obtain ⟨-, -, -, -, fits, -, -, -, places, -⟩ := inv
  have whole : (s.outbound.entries.filter fun x => !(x.onLine && x.withdrawn)) = s.outbound.entries :=
    congrArg (fun t : State => t.outbound.entries) (State.settledAttempt_of_unwithdrawn fits sent unwithdrawn)
  rw [whole] at ended
  obtain ⟨held, on⟩ := s.outbound.onLine_some e sent
  have where_sent := (places e held).2 on
  by_cases joining : s.station = .joining
  · rw [State.attemptFailed, if_pos joining, ended]
    exact fits.filter_returned (p := fun k => !k.isJoin) sent (by simp [join]) true
  · have syncing : s.station = .syncing := by
      cases kind : e.kind with
      | join pass => simpa [kind, EntryKind.sentIn, joining] using where_sent
      | _ => rw [kind] at join; contradiction
    have placed : ∀ x ∈ s.outbound.entries, x.kind.heldIn .syncing = true := fun x hx => syncing ▸ (places x hx).1
    have placed' : ∀ x ∈ (s.attemptFailed rollCall).outbound.entries, x.kind.heldIn .syncing = true := fun x hx => by
      obtain ⟨y, hy, -, -, rfl⟩ | ⟨someone, -⟩ := from_held x hx
      · rw [Entry.returned_kind]
        exact placed y hy
      · exact absurd nobody someone
    have split : ∀ l : List Entry, (∀ x ∈ l, x.kind.heldIn .syncing = true) →
        (l.filter fun x => !x.kind.isJoin) = l.filter fun x => x.kind.heldIn .syncing && !x.kind.isJoin := fun l all =>
      List.filter_congr fun x hx => by rw [all x hx, Bool.true_and]
    rw [split _ placed, split _ placed', State.attemptFailed, if_neg joining, State.voided, nobody]
    rw [State.leaseWork_filter (p := fun k => k.heldIn .syncing && !k.isJoin) (fun _ => rfl) rfl, ended]
    exact fits.filter_returned (p := fun k => k.heldIn .syncing && !k.isJoin) sent (by simp [join]) true

/-- R115, R177: the halt of a station at the T-th failure of its JOIN. -/
theorem State.attemptFailed_joinFails {s : State} (inv : s.Inv) {rollCall : StationSet} (nobody : s.reachingE rollCall = [])
    {e : Entry} (sent : s.outbound.onLine = some e) (unwithdrawn : e.withdrawn = false) (join : e.kind.isJoin = true) :
    s.JoinFails ((s.attemptFailed rollCall).halt .joinFailed) ∧
      ((s.attemptFailed rollCall).halt .joinFailed).roster =
        { s.roster with members := s.roster.members.map (Member.afterRollCall rollCall) } := by
  have others := State.attemptFailed_others inv nobody sent unwithdrawn join
  have frame := State.attemptFailed_frame inv rollCall
  have spent := s.attemptFailed_spent rollCall
  obtain ⟨-, -, -, -, fits, -⟩ := inv
  have slots : s.freedWithAttempt s.slots = s.slots :=
    congrArg State.slots (State.settledAttempt_of_unwithdrawn fits sent unwithdrawn)
  simp only [nobody, State.ousted, if_true, slots] at frame
  generalize s.attemptFailed rollCall = w at others frame spent ⊢
  refine State.joinFails_of (s := { s with
    roster := { s.roster with members := s.roster.members.map (Member.afterRollCall rollCall) }
    lease := w.lease }) others ?_
  have outbound : w.outbound = { s.outbound with entries := w.outbound.entries, sending := w.outbound.sending } :=
    congrArg (fun b => { w.outbound with spent := b }) spent
  have line : w.line = s.closeFrame.line := (congrArg State.line frame :)
  have judgement : w.judgement = s.closeFrame.judgement := (congrArg State.judgement frame :)
  rw [outbound, ← line, ← judgement] at frame
  exact frame

/-! ### The obligation -/

/-- Settles O53: with own misses at E the frame end is `ownMisses_restarts`; otherwise it leaves `attemptFailed`, whose
entries `mem_attemptFailed` gives, and acts on its exhaustion by `attemptFailed_restarts` or `attemptFailed_joinFails`. -/
theorem ownTroubleAtVoidFrameEnd : Obligations.OwnTroubleAtVoidFrameEnd := by
  unfold Obligations.OwnTroubleAtVoidFrameEnd
  intro obs s inv drives frame void out settled foreign
  refine ⟨fun who reached => State.ownMisses_restarts inv drives frame void who reached, fun e sent runs stays => ⟨?_, ?_⟩⟩
  · intro short
    have run := State.exec_frameEnd_attemptStays inv drives frame void runs stays sent short
    have whole := State.attemptFailed_frame inv obs.rollCall
    have spent := s.attemptFailed_spent obs.rollCall
    obtain ⟨held, on⟩ := s.outbound.onLine_some e sent
    rw [State.raised_attention] at run
    refine ⟨_, run, (congrArg State.station whole :), spent, State.attemptFailed_onLine inv stays, fun nobody => ⟨?_, ?_⟩,
      fun unwithdrawn kept => ?_, fun gone x hx kind => State.attemptFailed_settles inv stays sent gone hx kind⟩
    · exact (congrArg State.table whole :).trans (if_pos nobody)
    · exact (congrArg State.slots whole :).trans (congrArg s.freedWithAttempt (if_pos nobody))
    · have stands := State.mem_attemptFailed_of_stays inv stays held kept unwithdrawn
      simpa [Entry.returned, on] using stands
  · intro unwithdrawn kept limit
    have run := State.exec_frameEnd_exhausts inv drives frame void runs stays sent unwithdrawn kept limit
    have attention : (s.attemptFailed obs.rollCall).attention = s.attention := by
      rw [State.attemptFailed_frame inv]
      rfl
    refine ⟨fun other => ?_, fun join nobody => ?_⟩
    · rw [other, if_neg Bool.false_ne_true] at run
      have member : s.station ≠ .joining := fun joining => by
        obtain ⟨-, -, -, -, -, -, -, -, places, -⟩ := inv
        obtain ⟨held, on⟩ := s.outbound.onLine_some e sent
        have sent_there := (places e held).2 on
        rw [joining] at sent_there
        revert sent_there other
        cases e.kind <;> simp [EntryKind.sentIn, EntryKind.isJoin, StationState.tracksCensus]
      refine ⟨_, run, (State.attemptFailed_restarts inv member sent unwithdrawn _ _).raiseForeignFor _ _, ?_, ?_⟩
      · rw [State.raiseForeignFor_eq, State.raiseRosterFor_eq, attention]
        rfl
      · rw [State.raiseForeignFor_eq, State.raiseRosterFor_eq, attention]
        rfl
    · have head : (s.reachingE obs.rollCall).head? = none := by rw [List.head?_eq_none_iff]; exact nobody
      rw [join, if_pos rfl, head] at run
      obtain ⟨fails, roster⟩ := State.attemptFailed_joinFails inv nobody sent unwithdrawn join
      refine ⟨_, run, State.JoinFails.raiseForeignFor fails _ _, ?_, ?_⟩
      · rw [State.raiseForeignFor_eq]
        exact (congrArg (fun a : Attention => if s.foreignJoin obs.cells = true
          then { pending := true, detail := BitVec.ofNat 8 obs.cells.sender } else a.foreign) attention :)
      · rw [State.raiseForeignFor_frame]
        exact roster

end Sys2Proof.Machine
end

section
/-! The deadlines of the lease unit and the tick that brings them (R64, R68, R73 to R76, R94, R104). -/

namespace Sys2Proof.Machine

set_option Elab.async false

/-! ### The entry that a deadline requests (R104) -/

/-- R104: a kind whose argument counts is answered by that very kind. -/
theorem EntryKind.answers_eq_beq (a : EntryKind) {b : EntryKind} (join : b.isJoin = false) (part : b.isCensus = false) :
    a.answers b = (a == b) := by
  rw [Bool.eq_iff_iff, beq_iff_eq]
  exact ⟨EntryKind.eq_of_answers join part, fun same => same ▸ a.answers_self⟩

/-- R104: any JOIN entry answers the request for one. -/
theorem EntryKind.answers_join (a : EntryKind) (pass : Bool) : a.answers (.join pass) = a.isJoin := by
  cases a <;> rfl

/-- R104: the outbound set after a request. -/
theorem Outbound.request_eq (o : Outbound) (k : EntryKind) :
    o.request k = { o with
      entries := if o.entries.any (fun e => e.kind.answers k) then o.entries else o.entries ++ [Entry.fresh k] } := by
  unfold Outbound.request Outbound.holds
  split <;> rfl

/-! ### A deadline that is reached (R68, R73, R74, R94) -/

/-- R176: a timer that is not running has no deadline ahead. -/
theorem Timer.isRunning_eq_false {x : Timer} (h : ∀ n, x ≠ .running n) : x.isRunning = false := by
  cases x <;> simp_all [Timer.isRunning]

/-- R68: a peer lease that is reached changes the leases and, by its EXPIRE entry, the outbound set. -/
theorem State.leaseReached_frame (k : Nat) (s : State) :
    s.leaseReached k = { s with
      lease := { s.lease with leases := (s.leaseReached k).lease.leases }
      outbound := (s.leaseReached k).outbound } := by
  unfold State.leaseReached
  dsimp only
  split_ifs <;> rfl

/-- R73: the own pulse deadline changes its timer and the outbound set. -/
theorem State.pulseReached_frame (s : State) :
    s.pulseReached = { s with
      lease := { s.lease with pulse := if s.lease.pulse.isRunning then .reached else s.lease.pulse }
      outbound := s.pulseReached.outbound } := by
  unfold State.pulseReached
  dsimp only
  split_ifs <;> rfl

/-- R76, R94: the census window changes its timer and the outbound set. -/
theorem State.windowReached_frame (s : State) :
    s.windowReached = { s with
      lease := { s.lease with window := if s.lease.window.isRunning then .reached else s.lease.window }
      outbound := s.windowReached.outbound } := by
  unfold State.windowReached
  dsimp only
  split_ifs <;> rfl

/-- Settles O40: each deadline by the branches of its operation, the request by `Outbound.request_eq`. -/
theorem deadlinesEnterTheirEntries : Obligations.DeadlinesEnterTheirEntries := by
  unfold Obligations.DeadlinesEnterTheirEntries
  intro k s
  dsimp only
  have lease : exec (.peerLeaseReached k) s = .next (s.leaseReached k) := rfl
  have pulse : exec .ownPulseDeadlineReached s = .next s.pulseReached := rfl
  have window : exec .censusWindowReached s = .next s.windowReached := rfl
  have expires (e : EntryKind) : e.answers (.expire k) = (e == .expire k) := e.answers_eq_beq rfl rfl
  have pulses (e : EntryKind) : e.answers .pulse = (e == .pulse) := e.answers_eq_beq rfl rfl
  rw [lease, pulse, window]
  refine ⟨fun n running ⟨synced, free⟩ => ?_, fun n running kept => ?_, fun stopped => ?_, fun n running synced => ?_,
    fun stopped => ?_, fun n running syncing => ?_, fun stopped => ?_⟩
  · have off := Census.freeze_eq_false.mpr free
    simp only [State.leaseReached, running, Timer.isRunning, synced, off, and_self, if_true, State.request,
      Outbound.request_eq, expires]
    rfl
  · have kept' : ¬(s.station = .synced ∧ s.census.freeze = false) := by
      rw [Census.freeze_eq_false]
      tauto
    simp only [State.leaseReached, running, Timer.isRunning, kept', if_true, if_false]
    rfl
  · simp only [State.leaseReached, Timer.isRunning_eq_false stopped, Bool.false_eq_true, if_false]
  · simp only [State.pulseReached, running, Timer.isRunning, synced, if_true, State.request, Outbound.request_eq, pulses]
    rfl
  · simp only [State.pulseReached, Timer.isRunning_eq_false stopped, Bool.false_eq_true, if_false]
  · simp only [State.windowReached, running, Timer.isRunning, syncing, if_true, State.request, Outbound.request_eq,
      EntryKind.answers_join]
    rfl
  · simp only [State.windowReached, Timer.isRunning_eq_false stopped, Bool.false_eq_true, if_false]

/-! ### The fence (R74, R75, R135, R144) -/

/-- R74: the slots whose records a fence withdraws. -/
def Slot.fences (b : Slot) : Bool :=
  b.state == .waiting || b.state == .granted

/-- R74, R135: a slot after the fence of its record. -/
def Slot.fenced (b : Slot) : Slot :=
  if b.fences then b.become .lost (some .fenced) else b

theorem Slot.fenced_of_fences {b : Slot} (h : b.fences = true) :
    b.fenced = { b with state := .lost, reason := some .fenced, changed := true, dropWanted := false } := by
  have other : b.state ≠ .lost := by
    rintro lost
    simp [Slot.fences, lost] at h
  rw [Slot.fenced, if_pos h, Slot.become_lost other]

/-- R74: a slot once fenced is fenced no more. -/
theorem Slot.fenced_fenced (b : Slot) : b.fenced.fenced = b.fenced := by
  cases h : b.fences
  · simp [Slot.fenced, h]
  · rw [Slot.fenced_of_fences h]
    rfl

/-- R74: what the fence of one own record comes to. -/
theorem State.fenceTag_cases (s : State) (tag : Nat) :
    ((s.slotAt tag).fences = true ∧
      s.fenceTag tag = (s.updateSlot tag (Slot.become .lost (some .fenced))).request (.drop tag)) ∨
    ((s.slotAt tag).fences = false ∧ s.fenceTag tag = s) := by
  unfold State.fenceTag Slot.fences
  cases (s.slotAt tag).state <;> simp

/-- R74: the fence of records changes the slots and the outbound set alone. -/
theorem State.fenceTags_frame (l : List Nat) (s : State) :
    l.foldl State.fenceTag s =
      { s with outbound := (l.foldl State.fenceTag s).outbound, slots := (l.foldl State.fenceTag s).slots } := by
  induction l generalizing s with
  | nil => rfl
  | cons k l ih =>
    rw [List.foldl_cons, ih]
    obtain ⟨-, h⟩ | ⟨-, h⟩ := s.fenceTag_cases k <;> rw [h]
    rfl

/-- R74: only one of the station's slots is fenced. -/
theorem State.lt_of_fences {s : State} {k : Nat} (h : (s.slotAt k).fences = true) : k < s.slots.length := by
  by_contra beyond
  simp [State.slotAt, List.getD_eq_getElem?_getD, List.getElem?_eq_none (not_lt.mp beyond), Slot.fences, Slot.fresh] at h

theorem State.slotAt_fenceTag (s : State) (tag k : Nat) :
    (s.fenceTag tag).slotAt k = if k = tag then (s.slotAt k).fenced else s.slotAt k := by
  obtain ⟨fences, h⟩ | ⟨kept, h⟩ := s.fenceTag_cases tag <;> rw [h]
  · have slot := s.slotAt_updateSlot tag k (Slot.become .lost (some .fenced))
    rw [show ∀ u : State, (u.request (.drop tag)).slotAt k = u.slotAt k from fun _ => rfl, slot]
    by_cases same : k = tag
    · subst same
      simp [State.lt_of_fences fences, Slot.fenced, fences]
    · simp [same]
  · split
    · rename_i same
      rw [same, Slot.fenced, kept, if_neg Bool.false_ne_true]
    · rfl

/-- R74: the slots after the fence of records. -/
theorem State.slotAt_fenceTags (l : List Nat) (s : State) (k : Nat) :
    (l.foldl State.fenceTag s).slotAt k = if k ∈ l then (s.slotAt k).fenced else s.slotAt k := by
  induction l generalizing s with
  | nil => rfl
  | cons tag l ih =>
    rw [List.foldl_cons, ih, State.slotAt_fenceTag]
    by_cases same : k = tag <;> by_cases later : k ∈ l <;> simp [same, later, Slot.fenced_fenced]

/-- R74, R104: the entries after the fence of one record. -/
theorem State.fenceTag_entries (s : State) (tag : Nat) :
    (s.fenceTag tag).outbound.entries = s.outbound.entries ++
      if (s.slotAt tag).fences && !s.outbound.entries.any (fun e => e.kind == .drop tag) then [Entry.fresh (.drop tag)]
      else [] := by
  have drops (e : EntryKind) : e.answers (.drop tag) = (e == .drop tag) := e.answers_eq_beq rfl rfl
  obtain ⟨fences, h⟩ | ⟨kept, h⟩ := s.fenceTag_cases tag <;> rw [h]
  · simp only [State.request_outbound, State.updateSlot_outbound, Outbound.request_eq, drops, fences, Bool.true_and]
    cases s.outbound.entries.any (fun e => e.kind == .drop tag) <;> simp
  · simp [kept]

/-- R74, R75: the DROP entries that the fence of records enters, in the order of the records. -/
theorem State.fenceTags_entries {l : List Nat} (distinct : l.Nodup) (s : State) :
    (l.foldl State.fenceTag s).outbound.entries = s.outbound.entries ++
      ((l.filter fun k => (s.slotAt k).fences).filter fun k => !s.outbound.entries.any fun e => e.kind == .drop k).map
        fun k => Entry.fresh (.drop k) := by
  induction l generalizing s with
  | nil => simp
  | cons tag l ih =>
    obtain ⟨absent, distinct⟩ := List.nodup_cons.mp distinct
    have apart {k : Nat} (later : k ∈ l) : k ≠ tag := fun same => absent (same ▸ later)
    have slots : ∀ k ∈ l, ((s.fenceTag tag).slotAt k).fences = (s.slotAt k).fences := fun k later => by
      rw [State.slotAt_fenceTag, if_neg (apart later)]
    have held : ∀ k ∈ l, (!(s.fenceTag tag).outbound.entries.any fun e => e.kind == .drop k) =
        !s.outbound.entries.any fun e => e.kind == .drop k := fun k later => by
      have other : (EntryKind.drop tag == .drop k) = false := by simp [(apart later).symm]
      rw [State.fenceTag_entries, List.any_append]
      split <;> simp [Entry.fresh, other]
    rw [List.foldl_cons, ih distinct, List.filter_congr slots,
      List.filter_congr fun k hk => held k (List.mem_filter.mp hk).1, State.fenceTag_entries, List.append_assoc]
    congr 1
    rw [List.filter_filter, List.filter_filter, List.filter_cons, Bool.and_comm]
    split <;> simp

/-- R74: the self guard changes its timer and, by the fence, the slots and the outbound set. -/
theorem State.guardReached_frame (s : State) :
    s.guardReached = { s with
      lease := { s.lease with selfGuard := if s.lease.selfGuard.isRunning then .reached else s.lease.selfGuard }
      outbound := s.guardReached.outbound
      slots := s.guardReached.slots } := by
  unfold State.guardReached
  split
  · rw [State.fenceRecords, State.fenceTags_frame]
  · rfl

/-- R2: the tags of a station's own records are distinct. -/
theorem Table.Distinct.ownTags {s : State} (h : s.table.Distinct) : s.ownTags.Nodup := by
  refine List.Nodup.map_on (fun a ha b hb tags => ?_) ((List.Nodup.of_map _ h).filter _)
  simp only [List.mem_filter, beq_iff_eq] at ha hb
  exact List.inj_on_of_nodup_map h ha.1 hb.1 (Prod.ext (ha.2.trans hb.2.symm) tags)

/-- Settles O41: the fence is a fold over the own tags, which are distinct; `slotAt_fenceTags` gives the slots and
`fenceTags_entries` the DROP entries. -/
theorem fenceWithdrawsTheGrants : Obligations.FenceWithdrawsTheGrants := by
  unfold Obligations.FenceWithdrawsTheGrants
  intro s distinct _
  dsimp only
  have run : exec .fence s = .next s.guardReached := rfl
  rw [run]
  refine ⟨fun n running => ⟨_, rfl, ?_⟩, fun stopped => ?_⟩
  · set marked : State := { s with lease := { s.lease with selfGuard := .reached } } with marked_eq
    have fence : s.guardReached = s.ownTags.foldl State.fenceTag marked := by
      simp only [State.guardReached, running, Timer.isRunning, if_true]
      rfl
    rw [fence]
    refine ⟨?_, ?_, ?_, ?_, ?_, ?_, fun k _ => ?_, State.fenceTags_entries (Table.Distinct.ownTags distinct) marked⟩
    case refine_7 =>
      rw [State.slotAt_fenceTags]
      change (if k ∈ s.ownTags then (s.slotAt k).fenced else s.slotAt k) =
        if k ∈ s.ownTags.filter (fun k => (s.slotAt k).fences) then _ else _
      by_cases own : k ∈ s.ownTags
      · cases fences : (s.slotAt k).fences
        · simp [own, fences, Slot.fenced]
        · simp only [own, fences, List.mem_filter, and_self, if_true]
          exact Slot.fenced_of_fences fences
      · simp [own]
    all_goals rw [State.fenceTags_frame]
  · simp only [State.guardReached, Timer.isRunning_eq_false stopped, Bool.false_eq_true, if_false]

end Sys2Proof.Machine
end

section
/-! The tick boundary at every timer, and the CLKIN cycle that completes a tick (R64, R66, R68, R72 to R74, R76, R94). -/

namespace Sys2Proof.Machine

set_option Elab.async false

/-! ### A timer at a tick boundary (R64) -/

/-- R64: a timer that is due is reached. -/
def Timer.expired (x : Timer) : Timer :=
  if x.due then .reached else x

/-- R64: a timer once a tick boundary has passed. -/
def Timer.afterTick (x : Timer) : Timer :=
  x.tick.expired

theorem Timer.due_iff (x : Timer) : x.due = true ↔ x = .running 0 := by
  simp [Timer.due]

theorem Timer.isRunning_of_due {x : Timer} (h : x.due = true) : x.isRunning = true := by
  rw [(Timer.due_iff x).mp h]
  rfl

theorem Timer.afterTick_running (n : Nat) : (Timer.running (n + 1)).afterTick = if n = 0 then .reached else .running n := by
  simp [Timer.afterTick, Timer.tick, Timer.expired, Timer.due]

/-- R64: a timer set for `n` ticks runs through the first `n - 1` boundaries and is reached at the `n`th. -/
theorem Timer.iterate_afterTick {n m : Nat} (some_tick : 1 ≤ n) (within : m ≤ n) :
    Timer.afterTick^[m] (.running n) = if m < n then .running (n - m) else .reached := by
  induction m with
  | zero => simp [show 0 < n from some_tick]
  | succ m ih =>
    obtain ⟨d, rfl⟩ := Nat.exists_eq_add_of_lt (show m < n from within)
    rw [Function.iterate_succ_apply', ih (by omega), if_pos (by omega), show m + d + 1 - m = d + 1 by omega,
      Timer.afterTick_running]
    by_cases last : d = 0
    · rw [if_pos last, if_neg (by omega)]
    · rw [if_neg last, if_pos (by omega), show m + d + 1 - (m + 1) = d by omega]

/-! ### The leases that fall due (R66, R68) -/

/-- R66: the leases once one is marked reached. -/
theorem LeaseUnit.leaseOf_markReached (l : LeaseUnit) {k : Nat} (runs : (l.leaseOf k).isRunning = true) (j : Nat) :
    (l.markReached k).leaseOf j = if j = k then .reached else l.leaseOf j := by
  have peers : ∀ x : Lease, (if x.peer = k then { x with timer := Timer.reached } else x).peer = x.peer := fun x => by
    split <;> rfl
  have found : (l.markReached k).leases.find? (fun x => x.peer == j) =
      (l.leases.find? fun x => x.peer == j).map fun x => if x.peer = k then { x with timer := .reached } else x := by
    simp only [LeaseUnit.markReached, List.find?_map, Function.comp_def, peers]
  unfold LeaseUnit.leaseOf at runs ⊢
  rw [found]
  cases held : l.leases.find? fun x => x.peer == j with
  | none =>
    have other : j ≠ k := by
      rintro rfl
      simp [held, Timer.isRunning] at runs
    simp [other]
  | some x =>
    have peer : x.peer = j := by simpa using List.find?_some held
    by_cases same : j = k <;> simp [peer, same]

/-- R68: the lease to each peer once one is commanded as reached. -/
theorem State.leaseReached_leaseOf (s : State) (k j : Nat) :
    (s.leaseReached k).lease.leaseOf j =
      if j = k ∧ (s.lease.leaseOf j).isRunning = true then .reached else s.lease.leaseOf j := by
  have unit : (s.leaseReached k).lease = if (s.lease.leaseOf k).isRunning then s.lease.markReached k else s.lease := by
    unfold State.leaseReached
    dsimp only
    split_ifs <;> rfl
  rw [unit]
  by_cases runs : (s.lease.leaseOf k).isRunning = true
  · rw [if_pos runs, LeaseUnit.leaseOf_markReached _ runs]
    by_cases same : j = k <;> simp [same, runs]
  · by_cases same : j = k <;> simp [same, runs]

/-- R68: the leases of several peers reached one after another. -/
theorem State.leasesReached_leaseOf (l : List Lease) (s : State) (j : Nat) :
    (l.foldl (fun u x => u.leaseReached x.peer) s).lease.leaseOf j =
      if j ∈ l.map Lease.peer ∧ (s.lease.leaseOf j).isRunning = true then .reached else s.lease.leaseOf j := by
  induction l generalizing s with
  | nil => simp
  | cons x l ih =>
    rw [List.foldl_cons, ih, State.leaseReached_leaseOf]
    by_cases now : j = x.peer ∧ (s.lease.leaseOf j).isRunning = true
    · obtain ⟨rfl, runs⟩ := now
      rw [if_pos (c := x.peer = x.peer ∧ _) ⟨rfl, runs⟩, ite_self, if_pos ⟨List.mem_cons_self, runs⟩]
    · simp only [now, if_false, List.map_cons, List.mem_cons]
      congr 1
      rw [eq_iff_iff]
      tauto

theorem State.leasesReached_frame (l : List Lease) (s : State) :
    l.foldl (fun u x => u.leaseReached x.peer) s = { s with
      lease := { s.lease with leases := (l.foldl (fun u x => u.leaseReached x.peer) s).lease.leases }
      outbound := (l.foldl (fun u x => u.leaseReached x.peer) s).outbound } := by
  induction l generalizing s with
  | nil => rfl
  | cons x l ih => rw [List.foldl_cons, ih, State.leaseReached_frame]

/-- R66: a tick boundary at the lease of a peer. -/
theorem LeaseUnit.leaseOf_tick (l : LeaseUnit) (k : Nat) : l.tick.leaseOf k = (l.leaseOf k).tick := by
  simp only [LeaseUnit.leaseOf, LeaseUnit.tick, List.find?_map, Function.comp_def, Option.map_map]
  cases l.leases.find? fun x => x.peer == k <;> rfl

/-- R66: with one lease to a peer, a lease in the list is the peer's. -/
theorem LeaseUnit.leaseOf_of_mem {l : LeaseUnit} (distinct : (l.leases.map Lease.peer).Nodup) {x : Lease}
    (held : x ∈ l.leases) : l.leaseOf x.peer = x.timer := by
  unfold LeaseUnit.leaseOf
  cases found : l.leases.find? fun y => y.peer == x.peer with
  | none => simpa using List.find?_eq_none.mp found x held
  | some y =>
    have peer : y.peer = x.peer := by simpa using List.find?_some found
    rw [List.inj_on_of_nodup_map distinct (List.mem_of_find?_eq_some found) held peer]
    rfl

/-- R66: a lease that is not inactive stands in the list. -/
theorem LeaseUnit.mem_of_leaseOf {l : LeaseUnit} {k : Nat} (active : l.leaseOf k ≠ .inactive) :
    ∃ x ∈ l.leases, x.peer = k ∧ x.timer = l.leaseOf k := by
  unfold LeaseUnit.leaseOf at active ⊢
  cases found : l.leases.find? fun y => y.peer == k with
  | none => simp [found] at active
  | some y => exact ⟨y, List.mem_of_find?_eq_some found, by simpa using List.find?_some found, rfl⟩

/-! ### The tick boundary, deadline by deadline (R64, log 6) -/

/-- R64, R68: the timers counted, and the leases that are due reached. -/
def State.leasesTicked (s : State) : State :=
  (s.lease.tick.leases.filter fun x => x.timer.due).foldl (fun u x => u.leaseReached x.peer)
    { s with lease := s.lease.tick }

/-- R73: then the own pulse deadline, if it is due. -/
def State.pulseTicked (s : State) : State :=
  if s.lease.pulse.due then s.pulseReached else s

/-- R74: then the self guard. -/
def State.guardTicked (s : State) : State :=
  if s.lease.selfGuard.due then s.guardReached else s

/-- R94: then the census window. -/
def State.windowTicked (s : State) : State :=
  if s.lease.window.due then s.windowReached else s

theorem State.tick_eq (s : State) : s.tick = s.leasesTicked.pulseTicked.guardTicked.windowTicked := rfl

theorem State.leasesTicked_frame (s : State) :
    s.leasesTicked = { s with
      lease := { s.lease.tick with leases := s.leasesTicked.lease.leases }
      outbound := s.leasesTicked.outbound } := by
  unfold State.leasesTicked
  rw [State.leasesReached_frame]

theorem State.pulseTicked_frame (s : State) :
    s.pulseTicked = { s with
      lease := { s.lease with pulse := s.lease.pulse.expired }
      outbound := s.pulseTicked.outbound } := by
  unfold State.pulseTicked Timer.expired
  split
  · rename_i due
    rw [State.pulseReached_frame, Timer.isRunning_of_due due]
    rfl
  · rfl

theorem State.guardTicked_frame (s : State) :
    s.guardTicked = { s with
      lease := { s.lease with selfGuard := s.lease.selfGuard.expired }
      outbound := s.guardTicked.outbound
      slots := s.guardTicked.slots } := by
  unfold State.guardTicked Timer.expired
  split
  · rename_i due
    rw [State.guardReached_frame, Timer.isRunning_of_due due]
    rfl
  · rfl

theorem State.windowTicked_frame (s : State) :
    s.windowTicked = { s with
      lease := { s.lease with window := s.lease.window.expired }
      outbound := s.windowTicked.outbound } := by
  unfold State.windowTicked Timer.expired
  split
  · rename_i due
    rw [State.windowReached_frame, Timer.isRunning_of_due due]
    rfl
  · rfl

/-- R64: a tick boundary changes the tick counter and the timers, the entries and the slots. -/
theorem State.tick_frame (s : State) :
    s.tick = { s with
      lease := { s.lease with
        ticks := s.lease.ticks + 1
        leases := s.leasesTicked.lease.leases
        pulse := s.lease.pulse.afterTick
        selfGuard := s.lease.selfGuard.afterTick
        window := s.lease.window.afterTick }
      outbound := s.tick.outbound
      slots := s.tick.slots } := by
  rw [State.tick_eq, State.windowTicked_frame, State.guardTicked_frame, State.pulseTicked_frame, State.leasesTicked_frame]
  rfl

/-- R64, R66: a tick boundary at the lease to a peer, with one lease to each. -/
theorem State.tick_leaseOf {s : State} (distinct : (s.lease.leases.map Lease.peer).Nodup) (k : Nat) :
    s.tick.lease.leaseOf k = (s.lease.leaseOf k).afterTick := by
  have same : s.tick.lease.leaseOf k = s.leasesTicked.lease.leaseOf k := by
    rw [State.tick_frame]
    rfl
  have distinct' : (s.lease.tick.leases.map Lease.peer).Nodup := by
    rwa [LeaseUnit.tick, List.map_map]
  have listed : k ∈ (s.lease.tick.leases.filter fun x => x.timer.due).map Lease.peer ↔
      (s.lease.tick.leaseOf k).due = true := by
    simp only [List.mem_map, List.mem_filter]
    constructor
    · rintro ⟨x, ⟨held, due⟩, rfl⟩
      rwa [LeaseUnit.leaseOf_of_mem distinct' held]
    · intro due
      have active : s.lease.tick.leaseOf k ≠ .inactive := by simp [(Timer.due_iff _).mp due]
      obtain ⟨x, held, peer, timer⟩ := LeaseUnit.mem_of_leaseOf active
      exact ⟨x, ⟨held, timer ▸ due⟩, peer⟩
  have reached : (k ∈ (s.lease.tick.leases.filter fun x => x.timer.due).map Lease.peer ∧
      (s.lease.tick.leaseOf k).isRunning = true) ↔ (s.lease.tick.leaseOf k).due = true := by
    rw [listed]
    exact and_iff_left_of_imp Timer.isRunning_of_due
  rw [same, State.leasesTicked, State.leasesReached_leaseOf, if_congr reached rfl rfl, LeaseUnit.leaseOf_tick]
  rfl

/-! ### The tick boundary as the commands of its deadlines (log 6) -/

/-- R64: the command of a deadline whose timer falls due at a tick boundary. -/
def Timer.commandAtTick (x : Timer) (i : Instr) : List Instr :=
  if x.tick.due then [i] else []

/-- The commands of the deadlines that fall due at a tick boundary, in the order of log 6. -/
def LeaseUnit.commandsAtTick (l : LeaseUnit) : List Instr :=
  l.leases.flatMap (fun x => x.timer.commandAtTick (.peerLeaseReached x.peer)) ++
    l.pulse.commandAtTick .ownPulseDeadlineReached ++ l.selfGuard.commandAtTick .fence ++
    l.window.commandAtTick .censusWindowReached

theorem Timer.foldl_commandAtTick (x : Timer) (i : Instr) (u : State) :
    (x.commandAtTick i).foldl (fun u i => u.perform i) u = if x.tick.due then u.perform i else u := by
  unfold Timer.commandAtTick
  split <;> rfl

theorem State.foldl_leaseCommands (l : List Lease) (u : State) :
    (l.flatMap fun x => x.timer.commandAtTick (.peerLeaseReached x.peer)).foldl (fun u i => u.perform i) u =
      ((l.map fun x => { x with timer := x.timer.tick }).filter fun x => x.timer.due).foldl
        (fun u x => u.leaseReached x.peer) u := by
  induction l generalizing u with
  | nil => rfl
  | cons x l ih =>
    rw [List.flatMap_cons, List.foldl_append, Timer.foldl_commandAtTick, ih, List.map_cons, List.filter_cons]
    split <;> rfl

/-- R64: the tick boundary is its deadlines' commands after the count (log 6). -/
theorem State.tick_eq_commands (s : State) :
    s.tick = s.lease.commandsAtTick.foldl (fun u i => u.perform i) { s with lease := s.lease.tick } := by
  have pulse : s.leasesTicked.lease.pulse = s.lease.pulse.tick := by
    rw [State.leasesTicked_frame]
    rfl
  have selfGuard : s.leasesTicked.pulseTicked.lease.selfGuard = s.lease.selfGuard.tick := by
    rw [State.pulseTicked_frame, State.leasesTicked_frame]
    rfl
  have window : s.leasesTicked.pulseTicked.guardTicked.lease.window = s.lease.window.tick := by
    rw [State.guardTicked_frame, State.pulseTicked_frame, State.leasesTicked_frame]
    rfl
  simp only [LeaseUnit.commandsAtTick, List.foldl_append, Timer.foldl_commandAtTick, State.foldl_leaseCommands]
  rw [State.tick_eq, State.windowTicked, window, State.guardTicked, selfGuard, State.pulseTicked, pulse]
  rfl

/-! ### Many tick boundaries (R64) -/

/-- A timer that every tick boundary takes on, where what that rests on is kept, is taken on by many. -/
theorem State.iterate_tick_timer {p : State → Prop} {read : State → Timer} (keeps : ∀ s, p s → p s.tick)
    (reads : ∀ s, p s → read s.tick = (read s).afterTick) {s : State} (h : p s) (m : Nat) :
    read (State.tick^[m] s) = Timer.afterTick^[m] (read s) := by
  induction m generalizing s with
  | zero => rfl
  | succ m ih => rw [Function.iterate_succ_apply, Function.iterate_succ_apply, ih (keeps s h), reads s h]

theorem State.iterate_tick_ticks (s : State) (m : Nat) : (State.tick^[m] s).lease.ticks = s.lease.ticks + m := by
  induction m with
  | zero => rfl
  | succ m ih => rw [Function.iterate_succ_apply', State.tick_frame, ← Nat.add_assoc, ← ih]

/-- R66: a station keeps one lease to a peer. -/
theorem State.LeasesFit.distinct {s : State} (h : s.LeasesFit) : (s.lease.leases.map Lease.peer).Nodup := by
  rw [h.1]
  split
  · exact List.nodup_range.filter _
  · exact List.nodup_nil

/-! ### The CLKIN cycle that completes a tick (R64, R120, log 34) -/

theorem step_of_idle {s : State} (idle : s.pending = []) : step s = .next s.clock := by
  unfold step
  rw [idle]

theorem State.clock_of_high {s : State} (high : s.resetnLow = false) : s.clock = s.tickCycle.sampleCycle :=
  if_neg (high ▸ Bool.false_ne_true)

theorem State.tickCycle_of_lt {s : State} (short : s.lease.divider + 1 < 1600) :
    s.tickCycle = { s with lease := { s.lease with divider := s.lease.divider + 1 } } :=
  if_pos short

theorem State.tickCycle_of_last {s : State} (last : 1600 ≤ s.lease.divider + 1) :
    s.tickCycle = ({ s with lease := { s.lease with divider := 0 } }).tick :=
  if_neg (not_lt.mpr last)

theorem State.sampleCycle_of_none {s : State} (still : s.line.sampling = false) : s.sampleCycle = s :=
  if_neg (still ▸ Bool.false_ne_true)

theorem State.sampleCycle_of_lt {s : State} (samples : s.line.sampling = true)
    (short : s.line.divider + 1 < 16 / 2 ^ s.config.rate.toNat) :
    s.sampleCycle = { s with line := { s.line with divider := s.line.divider + 1 } } :=
  (if_pos samples).trans (if_pos short)

theorem State.sampleCycle_of_last {s : State} (samples : s.line.sampling = true)
    (last : 16 / 2 ^ s.config.rate.toNat ≤ s.line.divider + 1) :
    s.sampleCycle = ({ s with line := { s.line with divider := 0 } }).sample :=
  (if_pos samples).trans (if_neg (not_lt.mpr last))

/-- Settles O4: the cycle by its dividers; the tick by `tick_eq_commands`; a timer set for `n` ticks by induction on the
ticks, the leases of distinct peers being kept. -/
theorem timersReachTheirTick : Obligations.TimersReachTheirTick := by
  unfold Obligations.TimersReachTheirTick
  refine ⟨fun s idle high last => ?_, fun s => ?_, fun s n m fits some_tick within => ?_⟩
  · dsimp only
    rw [step_of_idle idle, State.clock_of_high high, State.tickCycle_of_last (by omega)]
    set ticked := ({ s with lease := { s.lease with divider := 0 } } : State).tick with ticked_eq
    have line : ticked.line = s.line := by
      rw [ticked_eq, State.tick_frame]
    have config : ticked.config = s.config := by
      rw [ticked_eq, State.tick_frame]
    rw [← line, ← config]
    exact ⟨fun still => by rw [State.sampleCycle_of_none still],
      fun samples short => by rw [State.sampleCycle_of_lt samples short],
      fun samples full => by rw [State.sampleCycle_of_last samples full]⟩
  · intro down due counted commands
    have down_eq : down = Timer.tick := by
      funext x
      cases x <;> rfl
    have due_eq : due = Timer.commandAtTick := by
      funext x i
      simp only [due, down_eq, Timer.commandAtTick, Timer.due_iff]
    have counted_eq : counted = { s with lease := s.lease.tick } := by
      simp only [counted, down_eq]
      rfl
    have commands_eq : commands = s.lease.commandsAtTick := by
      simp only [commands, due_eq]
      rfl
    exact ⟨fun i _ u => exec_eq_perform i u, by rw [commands_eq, counted_eq]; exact s.tick_eq_commands⟩
  · dsimp only
    have set_for : ∀ x : Timer, x = .running n →
        Timer.afterTick^[m] x = if m < n then .running (n - m) else .reached := fun x running => by
      rw [running, Timer.iterate_afterTick some_tick within]
    have own : ∀ {read : State → Timer}, (∀ u, read u.tick = (read u).afterTick) → read s = .running n →
        read (State.tick^[m] s) = if m < n then .running (n - m) else .reached := fun {read} reads running => by
      rw [State.iterate_tick_timer (p := fun _ => True) (fun _ h => h) (fun u _ => reads u) trivial, set_for _ running]
    refine ⟨s.iterate_tick_ticks m, own (read := fun u => u.lease.pulse) fun u => ?_,
      own (read := fun u => u.lease.selfGuard) fun u => ?_, own (read := fun u => u.lease.window) fun u => ?_,
      fun k running => ?_⟩
    · rw [State.tick_frame]
    · rw [State.tick_frame]
    · rw [State.tick_frame]
    · rw [State.iterate_tick_timer (read := fun u => u.lease.leaseOf k)
        (fun u (distinct : (u.lease.leases.map Lease.peer).Nodup) => (State.Minor.tick u).peers ▸ distinct)
        (fun u distinct => State.tick_leaseOf distinct k) fits.distinct, set_for _ running]

end Sys2Proof.Machine
end

section
/-! What the events of the line and the deadlines leave alone: the configuration, the durations, the time base, the sample
divider, the host transaction, RESETN and the queue (R64, R65, R120, R153, R154, R170); and what each command changes of
these. -/

namespace Sys2Proof.Machine

set_option Elab.async false

/-- What stands behind the station's work on the line: R170, R65, R64, R120, R153, R179 and the queue. -/
structure Background where
  config : ConfigSet
  durations : Option Durations
  ticks : Nat
  tickDivider : Nat
  sampleDivider : Nat
  port : Port
  resetnLow : Bool
  pending : List Instr

/-- The background of a station. -/
def State.background (s : State) : Background :=
  { config := s.config, durations := s.lease.durations, ticks := s.lease.ticks, tickDivider := s.lease.divider,
    sampleDivider := s.line.divider, port := s.port, resetnLow := s.resetnLow, pending := s.pending }

/-! ### The attempt on the line, the self-restart and the halt -/

@[simp] theorem State.endAttempt_background (counted : Bool) (s : State) :
    (s.endAttempt counted).background = s.background := by
  rw [State.endAttempt_frame]
  rfl

@[simp] theorem State.takeEntry_background (s : State) : s.takeEntry.background = s.background := by
  rw [State.takeEntry_frame]
  rfl

@[simp] theorem State.halt_background (c : HaltCause) (s : State) : (s.halt c).background = s.background := rfl

@[simp] theorem State.selfRestart_background (c : OutCause) (s : State) :
    (s.selfRestart c).background = s.background := rfl

@[simp] theorem State.actOnExhaustion_background (s : State) : s.actOnExhaustion.background = s.background := by
  obtain ⟨-, h⟩ | ⟨_, -, -, -, h⟩ | ⟨_, -, -, -, h⟩ := s.actOnExhaustion_cases <;> rw [h]
  · exact s.halt_background _
  · exact s.selfRestart_background _

@[simp] theorem State.clashFound_background (c : FrameCells) (s : State) : (s.clashFound c).background = s.background := by
  obtain ⟨-, h⟩ | ⟨-, h⟩ := s.clashFound_cases c <;> rw [h]
  rw [State.halt_background, State.endAttempt_background]

/-! ### The events of the line before a frame end -/

@[simp] theorem State.recover_background (s : State) : s.recover.background = s.background := rfl
@[simp] theorem State.countFrom_background (n : Nat) (s : State) : (s.countFrom n).background = s.background := rfl
@[simp] theorem State.stopDriving_background (s : State) : s.stopDriving.background = s.background := rfl
@[simp] theorem State.resync_background (s : State) : s.resync.background = s.background := rfl
@[simp] theorem State.openFrame_background (s : State) : s.openFrame.background = s.background := rfl
@[simp] theorem State.closeFrame_background (s : State) : s.closeFrame.background = s.background := rfl
@[simp] theorem State.markError_background (s : State) : s.markError.background = s.background := rfl
@[simp] theorem State.markAbandoned_background (s : State) : s.markAbandoned.background = s.background := rfl
@[simp] theorem State.quietComesTo_background (n : Nat) (s : State) : (s.quietComesTo n).background = s.background := rfl
@[simp] theorem State.setRx_background (x : Rx) (s : State) : (s.setRx x).background = s.background := rfl
@[simp] theorem State.decideVoid_background (x : Rx) (s : State) : (s.decideVoid x).background = s.background := rfl
@[simp] theorem State.decideOutcome_background (x : Rx) (s : State) : (s.decideOutcome x).background = s.background := rfl
@[simp] theorem State.countDrive_background (b : Level) (s : State) : (s.countDrive b).background = s.background := rfl

@[simp] theorem State.closePhase_background (s : State) : s.closePhase.background = s.background := by
  unfold State.closePhase
  split <;> rfl

@[simp] theorem State.afterLastPhase_background (s : State) : s.afterLastPhase.background = s.background := by
  obtain ⟨-, h⟩ | ⟨-, h⟩ := s.afterLastPhase_cases <;> rw [h]
  rfl

@[simp] theorem State.askIfSettled_background (s : State) : s.askIfSettled.background = s.background := by
  unfold State.askIfSettled
  split
  · obtain ⟨-, h⟩ | ⟨_, -, h⟩ := s.ask_cases <;> rw [h]
    rfl
  · rfl

@[simp] theorem State.frameStart_background (n : Nat) (s : State) : (s.frameStart n).background = s.background := by
  unfold State.frameStart
  split <;> simp

@[simp] theorem State.keyMark_background (n : Nat) (s : State) : (s.keyMark n).background = s.background := by
  unfold State.keyMark
  split <;> simp

@[simp] theorem State.arbitrationLoss_background (s : State) : s.arbitrationLoss.background = s.background := by
  unfold State.arbitrationLoss
  split <;> simp

@[simp] theorem State.bitError_background (s : State) : s.bitError.background = s.background := by
  unfold State.bitError
  split <;> simp

@[simp] theorem State.brokenOff_background (cause : BreakCause) (s : State) :
    (s.brokenOff cause).background = s.background := by
  unfold State.brokenOff
  split <;> simp

@[simp] theorem State.identityClash_background (c : FrameCells) (s : State) :
    (s.identityClash c).background = s.background := by
  unfold State.identityClash
  split <;> simp

@[simp] theorem State.becomeStuck_background (s : State) : s.becomeStuck.background = s.background := by
  unfold State.becomeStuck
  split
  · rw [State.endAttempt_frame]
    rfl
  · rfl

@[simp] theorem State.becomeNormal_background (s : State) : s.becomeNormal.background = s.background := by
  unfold State.becomeNormal
  split <;> rfl

@[simp] theorem State.becomeAware_background (s : State) : s.becomeAware.background = s.background := by
  unfold State.becomeAware
  dsimp only
  split_ifs <;> rfl

@[simp] theorem State.roundGap_background (s : State) : s.roundGap.background = s.background := by
  unfold State.roundGap
  split <;> simp

/-! ### The frame end (R47) -/

@[simp] theorem State.evict_background (gone : StationSet) (s : State) : (s.evict gone).background = s.background := by
  rw [State.evict_frame, State.evict_lease]
  rfl

theorem State.leaseWork_background (renewed expired : Option Nat) (own frozen : Bool) (s : State) :
    (s.leaseWork renewed expired own frozen).background = s.background := by
  rw [State.leaseWork_frame, State.leaseWork_lease]
  obtain ⟨-, h⟩ | ⟨-, -, h⟩ | ⟨-, -, -, h⟩ := State.ownTimersAfter_cases own
    { s with lease := { s.lease with leases := s.leasesAfter renewed } } <;> rw [h] <;> rfl

theorem State.applyContent_background (s : State) (sender : Nat) (f : Frame) (standing : StationSet) :
    (s.applyContent sender f standing).background = s.background := by
  rcases s.applyContent_cases sender f standing with ⟨_, -, x⟩ | ⟨_, -, x⟩ | ⟨_, _, _, -, -, x⟩ | ⟨_, -, -, x⟩ |
    ⟨_, -, -, x⟩ | ⟨-, -, x⟩ | ⟨-, -, x⟩ | x <;> rw [x]
  · rw [State.joinTaken_frame]; rfl
  · rw [State.censusTaken_frame]; rfl
  · rw [State.claimTaken_frame]; rfl
  · rw [State.dropTaken_frame]; rfl
  · rw [State.expireTaken_frame]; rfl
  · rfl
  · rw [State.leaveTaken_frame]; rfl

theorem State.applyTaken_background (own : Bool) (c : FrameCells) (standing : StationSet) (s : State) :
    (s.applyTaken own c standing).background = s.background := by
  obtain ⟨u, cases_u, e⟩ := s.applyTaken_cases own c standing
  have entry : (s.entryTaken own).background = s.background := by
    rw [State.entryTaken_frame]
    rfl
  have content : u.background = s.background := by
    obtain ⟨-, rfl⟩ | ⟨f, -, rfl⟩ := cases_u
    · exact entry
    · rw [State.applyContent_background, entry]
  rw [e]
  split
  · rw [State.settleTaken_frame]; exact content
  · exact content

theorem State.finishMember_background (s before : State) (own : Bool) (obs : FrameObs) :
    (s.finishMember before own obs).background = s.background := by
  have leased : (s.leasedAtEnd before own obs).background = s.background := by
    unfold State.leasedAtEnd
    dsimp only
    rw [State.leaseWork_background]
    split_ifs <;> simp
  rw [State.finishMember_eq]
  split
  · rw [State.selfRestart_background, leased]
  · rw [State.actOnExhaustion_background, State.raiseRosterFor_frame]
    exact leased

theorem State.memberFrameEnd_background (own : Bool) (obs : FrameObs) (s : State) :
    (s.memberFrameEnd own obs).background = s.background := by
  have counted : (s.countMisses obs.rollCall).background = s.background := rfl
  unfold State.memberFrameEnd
  dsimp only
  rw [State.raiseForeignFor_frame]
  change State.background (if _ then _ else _) = _
  split_ifs <;> simp only [State.finishMember_background, State.applyTaken_background, counted]

theorem State.joiningFrameEnd_background (own : Bool) (obs : FrameObs) (s : State) :
    (s.joiningFrameEnd own obs).background = s.background := by
  have joined (u : State) : (u.ownJoinTaken obs.rollCall obs.standing).background = u.background := by
    unfold State.ownJoinTaken
    dsimp only
    split
    · rfl
    · rw [State.resetRun_frame]
      rfl
  unfold State.joiningFrameEnd
  split_ifs <;> simp [joined]

@[simp] theorem State.frameEnd_background (obs : FrameObs) (s : State) : (s.frameEnd obs).background = s.background := by
  by_cases frame : s.line.tracking = .frame
  · have settled : (s.settledFrame obs.cells).background = s.background := by
      unfold State.settledFrame
      obtain ⟨-, h⟩ | ⟨-, h⟩ := (s.clashFound obs.cells).loseUnlessOwn_cases obs.cells <;> rw [h] <;> simp
    have handed (own : Bool) (u : State) : (u.handOn own obs).background = u.background := by
      unfold State.handOn
      cases u.station <;> simp only [State.memberFrameEnd_background, State.joiningFrameEnd_background]
    rw [State.frameEnd_eq frame, handed, settled]
  · rw [State.frameEnd, if_neg frame]

/-! ### The deadlines -/

@[simp] theorem State.leaseReached_background (k : Nat) (s : State) : (s.leaseReached k).background = s.background := by
  rw [State.leaseReached_frame]
  rfl

@[simp] theorem State.pulseReached_background (s : State) : s.pulseReached.background = s.background := by
  rw [State.pulseReached_frame]
  rfl

@[simp] theorem State.guardReached_background (s : State) : s.guardReached.background = s.background := by
  rw [State.guardReached_frame]
  rfl

@[simp] theorem State.windowReached_background (s : State) : s.windowReached.background = s.background := by
  rw [State.windowReached_frame]
  rfl

/-! ### A sample (R121, R122) -/

@[simp] theorem State.endOfCells_background (x : Rx) (s : State) : (s.endOfCells x).background = s.background := by
  unfold State.endOfCells
  dsimp only
  split
  · exact s.clashFound_background x.cells
  · rfl

theorem State.cellBit_background (b : Level) (x : Rx) (s : State) : (s.cellBit b x).background = s.background := by
  unfold State.cellBit
  dsimp only
  split_ifs <;> simp

theorem State.phaseBit_background (b : Level) (x : Rx) (s : State) : (s.phaseBit b x).background = s.background := by
  unfold State.phaseBit
  dsimp only
  split_ifs <;> simp

theorem State.trackedBit_background (b : Level) (s : State) : (s.trackedBit b).background = s.background := by
  unfold State.trackedBit
  cases s.line.tracking with
  | none => rfl
  | recovering =>
    change (s.recoverBit b).background = _
    unfold State.recoverBit
    split_ifs
    · rfl
    · rfl
    · exact s.becomeAware_background
  | quiet =>
    change (s.quietBit b).background = _
    unfold State.quietBit
    split <;> rfl
  | frame =>
    change (s.frameBit b).background = _
    unfold State.frameBit
    split
    · rfl
    · split
      · exact s.cellBit_background b _
      · exact s.phaseBit_background b _
  | ending => rfl

@[simp] theorem State.readBit_background (s : State) : s.readBit.background = s.background := by
  have stuck (b : Level) (u : State) : (u.stuckBit b).background = u.background := by
    unfold State.stuckBit
    split_ifs
    · rfl
    · rfl
    · exact u.becomeNormal_background
  unfold State.readBit
  dsimp only
  cases s.line.condition with
  | stuck => simp only [stuck, State.countDrive_background]
  | normal =>
    dsimp only
    split_ifs <;> simp only [State.becomeStuck_background, State.trackedBit_background, State.countDrive_background]

@[simp] theorem State.openBit_background (s : State) : s.openBit.background = s.background := by
  unfold State.openBit
  cases s.line.tracking with
  | none => rfl
  | recovering => rfl
  | frame => dsimp only; split <;> rfl
  | ending => exact s.afterLastPhase_background
  | quiet => dsimp only; split_ifs <;> simp

@[simp] theorem State.filterSample_background (b : Level) (s : State) : (s.filterSample b).background = s.background := by
  unfold State.filterSample
  split_ifs
  · rfl
  · rfl
  · rw [State.markEdge, State.keyMark_background, State.resync_background]
  · rfl

@[simp] theorem State.sample_background (s : State) : s.sample.background = s.background := by
  have moved : ({ s with line := { s.line with phase := s.line.phase % Config.samplesPerBit + 1 } } : State).background =
      s.background := rfl
  unfold State.sample
  dsimp only
  split_ifs <;> simp [moved]

/-! ### A CLKIN cycle (R64, R120) -/

/-- R64: the tick's share of a CLKIN cycle, at the line unit and the background. -/
theorem State.tickCycle_frame (s : State) :
    s.tickCycle.line = s.line ∧ s.tickCycle.background = { s.background with
      tickDivider := if s.lease.divider + 1 < 1600 then s.lease.divider + 1 else 0
      ticks := if s.lease.divider + 1 < 1600 then s.lease.ticks else s.lease.ticks + 1 } := by
  by_cases short : s.lease.divider + 1 < 1600
  · rw [State.tickCycle_of_lt short, if_pos short, if_pos short]
    exact ⟨rfl, rfl⟩
  · rw [State.tickCycle_of_last (not_lt.mp short), State.tick_frame, if_neg short, if_neg short]
    exact ⟨rfl, rfl⟩

/-- R120: the sample's share of a CLKIN cycle, at the background. -/
theorem State.sampleCycle_background {s : State} (samples : s.line.sampling = true) :
    s.sampleCycle.background = { s.background with
      sampleDivider := if s.line.divider + 1 < 16 / 2 ^ s.config.rate.toNat then s.line.divider + 1 else 0 } := by
  by_cases short : s.line.divider + 1 < 16 / 2 ^ s.config.rate.toNat
  · rw [State.sampleCycle_of_lt samples short, if_pos short]
    rfl
  · rw [State.sampleCycle_of_last samples (not_lt.mp short), if_neg short, State.sample_background]
    rfl

/-- R64, R120: the background after one CLKIN cycle. -/
theorem State.clock_background {s : State} (high : s.resetnLow = false) :
    s.clock.background = { s.tickCycle.background with
      sampleDivider :=
        if s.line.sampling = true then
          if s.line.divider + 1 < 16 / 2 ^ s.config.rate.toNat then s.line.divider + 1 else 0
        else s.line.divider } := by
  obtain ⟨line, background⟩ := s.tickCycle_frame
  have config : s.tickCycle.config = s.config := congrArg Background.config background
  rw [State.clock_of_high high, ← line, ← config]
  by_cases samples : s.tickCycle.line.sampling = true
  · rw [State.sampleCycle_background samples, if_pos samples]
  · rw [State.sampleCycle_of_none (by simpa using samples), if_neg samples]
    rfl

/-- Settles O2: the dividers of one cycle, and the background that tick and sample keep. -/
theorem clkinDividesIntoTicksAndSamples : Obligations.ClkinDividesIntoTicksAndSamples := by
  unfold Obligations.ClkinDividesIntoTicksAndSamples
  intro s idle
  rw [step_of_idle idle]
  refine ⟨fun low => ?_, fun high short => ?_, fun high within => ⟨_, rfl, ?_⟩⟩
  · rw [State.clock, if_pos low]
  · intro counted
    have run : s.clock = counted.sampleCycle := by rw [State.clock_of_high high, State.tickCycle_of_lt short]
    rw [run]
    exact ⟨fun still => by rw [State.sampleCycle_of_none (s := counted) still],
      fun samples below => by rw [State.sampleCycle_of_lt (s := counted) samples below],
      fun samples full => by rw [State.sampleCycle_of_last (s := counted) samples full]⟩
  · obtain ⟨line, ticked⟩ := s.tickCycle_frame
    have after := State.clock_background high
    rw [ticked] at after
    have last : s.lease.divider + 1 = 1600 ↔ ¬s.lease.divider + 1 < 1600 := by omega
    simp only [last, ite_not]
    refine ⟨congrArg Background.tickDivider after, congrArg Background.ticks after,
      fun samples => (congrArg Background.sampleDivider after).trans (if_pos samples), fun still => ?_,
      congrArg Background.durations after, congrArg Background.config after, congrArg Background.port after,
      (congrArg Background.resetnLow after).trans high, (congrArg Background.pending after).trans idle⟩
    rw [State.clock_of_high high, State.sampleCycle_of_none (line ▸ still), line]

/-! ### The host commands (R153) -/

/-- R153, R170: a command that leaves of the background all but the transaction on the host port. -/
abbrev State.AnswersOnly (s t : State) : Prop :=
  ∃ p, t.background = { s.background with port := p }

theorem State.AnswersOnly.respond {s u : State} (same : u.background = s.background) (a : Answer) (d : List Byte) :
    s.AnswersOnly (u.respond a d) :=
  ⟨.kept (a.code :: d) 0, by rw [← same]; rfl⟩

theorem State.AnswersOnly.hostTake {s : State} {act : State → State} (h : s.AnswersOnly (act s)) :
    s.AnswersOnly (s.hostTake act) := by
  obtain ⟨-, x⟩ | ⟨-, x⟩ := s.hostTake_cases act <;> rw [x]
  · exact ⟨s.port, rfl⟩
  · exact h

theorem State.answersOnly_submit (s : State) (k m n z1 z2 z3 z4 : Byte) : s.AnswersOnly (s.submit k m n z1 z2 z3 z4) := by
  unfold State.submit
  split_ifs
  · exact .respond rfl _ _
  · exact .respond rfl _ _
  · exact .respond rfl _ _
  · split <;> exact .respond rfl _ _

theorem State.answersOnly_hostDrop (s : State) (k : Byte) : s.AnswersOnly (s.hostDrop k) := by
  have queued : s.AnswersOnly (s.dropQueued k.toNat) := by
    unfold State.dropQueued
    dsimp only
    split_ifs <;> exact .respond rfl _ _
  unfold State.hostDrop
  split
  · exact .respond rfl _ _
  · cases (s.slotAt k.toNat).state with
    | queued => exact queued
    | _ => exact .respond rfl _ _

theorem State.answersOnly_hostClear (s : State) (k : Byte) : s.AnswersOnly (s.hostClear k) := by
  unfold State.hostClear
  split
  · exact .respond rfl _ _
  · cases (s.slotAt k.toNat).state with
    | lost => dsimp only; split <;> exact .respond rfl _ _
    | _ => exact .respond rfl _ _

theorem State.answersOnly_acknowledge (s : State) (c : Byte) : s.AnswersOnly (s.acknowledge c) := by
  unfold State.acknowledge
  split
  · exact .respond rfl _ _
  · split <;> exact .respond rfl _ _

theorem State.answersOnly_hostLeave (s : State) : s.AnswersOnly s.hostLeave := by
  unfold State.hostLeave
  split_ifs <;> exact .respond rfl _ _

theorem State.answersOnly_hostRestart (s : State) : s.AnswersOnly s.hostRestart := by
  unfold State.hostRestart
  split
  · exact .respond (s.endAttempt_background false) _ _
  · exact .respond rfl _ _

/-- R65, R155, R172: CONFIGURE and START change in CONFIG also the configuration or the durations, and START the sample
divider. -/
abbrev State.Configures (s t : State) : Prop :=
  s.station = .config ∧ ∃ p c d n, t.background =
    { s.background with port := p, config := c, durations := d, sampleDivider := n }

theorem State.configure_cases (s : State) (c : ConfigSet) :
    s.AnswersOnly (s.configure c) ∨ s.Configures (s.configure c) := by
  unfold State.configure
  split
  · rename_i config
    exact .inr ⟨config, _, _, _, _, rfl⟩
  · exact .inl (.respond rfl _ _)

theorem State.start_cases (s : State) : s.AnswersOnly s.start ∨ s.Configures s.start := by
  unfold State.start
  split
  · rename_i config
    split
    · exact .inr ⟨config, _, _, _, _, rfl⟩
    · exact .inl (.respond rfl _ _)
  · exact .inl (.respond rfl _ _)

/-- R154: so it is too where the command is taken only with RESETN high. -/
theorem State.hostTake_configures {s : State} {act : State → State} (h : s.AnswersOnly (act s) ∨ s.Configures (act s)) :
    s.AnswersOnly (s.hostTake act) ∨ s.Configures (s.hostTake act) := by
  obtain ⟨-, x⟩ | ⟨-, x⟩ := s.hostTake_cases act <;> rw [x]
  · exact .inl ⟨s.port, rfl⟩
  · exact h

/-! ### What a command changes of the background -/

/-- A command of the host, or a transaction that ends without one. -/
def transactionOf (c : Instr) : Bool :=
  match c with
  | .unknownCommand _ _ => true
  | .transactionNotTaken _ _ => true
  | c => hostCommandOf c

/-- R153: a transaction on the host port changes its port, and in CONFIG what CONFIGURE and START write. -/
theorem State.perform_of_transaction {c : Instr} (host : transactionOf c = true) (s : State) :
    s.AnswersOnly (s.perform c) ∨ s.Configures (s.perform c) := by
  cases c
  case configure => exact State.hostTake_configures (s.configure_cases _)
  case start => exact State.hostTake_configures s.start_cases
  case submit => exact .inl (.hostTake (s.answersOnly_submit _ _ _ _ _ _ _))
  case drop => exact .inl (.hostTake (s.answersOnly_hostDrop _))
  case clear => exact .inl (.hostTake (s.answersOnly_hostClear _))
  case slot =>
    refine .inl (.hostTake ?_)
    unfold State.readSlot
    split <;> exact .respond rfl _ _
  case zone =>
    refine .inl (.hostTake ?_)
    unfold State.readZone
    split <;> exact .respond rfl _ _
  case roster => exact .inl (.hostTake (.respond rfl _ _))
  case attention => exact .inl (.hostTake (.respond rfl _ _))
  case acknowledge => exact .inl (.hostTake (s.answersOnly_acknowledge _))
  case leave => exact .inl (.hostTake s.answersOnly_hostLeave)
  case restart => exact .inl (.hostTake s.answersOnly_hostRestart)
  case ident => exact .inl (.hostTake (.respond rfl _ _))
  case unknownCommand => exact .inl (.hostTake (.respond rfl _ _))
  case transactionNotTaken => exact .inl (.hostTake ⟨.idle, rfl⟩)
  all_goals exact absurd host Bool.false_ne_true

/-- R65, R153, R170: an event of the line and a deadline leave the background. -/
theorem State.perform_of_event {c : Instr} (event : transactionOf c = false) (cold : c ≠ .coldReset)
    (release : ∀ b, c ≠ .resetnRelease b) (s : State) : (s.perform c).background = s.background := by
  cases c
  case coldReset => exact absurd rfl cold
  case resetnRelease => exact absurd rfl (release _)
  case frameStart => exact (State.frameStart_background _ _).trans s.afterLastPhase_background
  case keyMark => exact (State.keyMark_background _ _).trans s.afterLastPhase_background
  case arbitrationLoss => exact s.arbitrationLoss_background
  case bitError => exact s.bitError_background
  case frameBrokenOff => exact s.brokenOff_background _
  case identityClash => exact s.identityClash_background _
  case frameEnd => exact s.frameEnd_background _
  case stuck => exact s.becomeStuck_background
  case lineNormal => exact s.becomeNormal_background
  case frameAware => exact s.becomeAware_background
  case roundGap => exact (State.roundGap_background _).trans s.afterLastPhase_background
  case peerLeaseReached => exact s.leaseReached_background _
  case ownPulseDeadlineReached => exact s.pulseReached_background
  case fence => exact s.guardReached_background
  case censusWindowReached => exact s.windowReached_background
  all_goals exact absurd event (Bool.false_ne_true ∘ Eq.symm)

/-- R179: a cold reset leaves the queue. -/
theorem State.perform_coldReset_pending (s : State) : (s.perform .coldReset).pending = s.pending := rfl

/-- R180: the release of RESETN leaves the configuration, the durations and the queue. -/
theorem State.perform_resetnRelease_keeps (b : Bool) (s : State) :
    (s.perform (.resetnRelease b)).config = s.config ∧
      (s.perform (.resetnRelease b)).lease.durations = s.lease.durations ∧
      (s.perform (.resetnRelease b)).pending = s.pending := by
  change (s.releaseReset b).config = _ ∧ (s.releaseReset b).lease.durations = _ ∧ (s.releaseReset b).pending = _
  unfold State.releaseReset
  split <;> exact ⟨rfl, rfl, rfl⟩

/-- Settles O3: the cold reset, the release of RESETN, a transaction, or an event, each by what it leaves of the
background. -/
theorem commandsKeepConfigurationAndPort : Obligations.CommandsKeepConfigurationAndPort := by
  unfold Obligations.CommandsKeepConfigurationAndPort
  intro c s
  refine ⟨s.perform c, exec_eq_perform c s, ?_⟩
  by_cases cold : c = .coldReset
  · subst cold
    exact ⟨s.perform_coldReset_pending, fun h => absurd rfl h, fun h => absurd rfl h, fun _ _ _ h => absurd rfl h⟩
  by_cases release : ∃ b, c = .resetnRelease b
  · obtain ⟨b, rfl⟩ := release
    obtain ⟨config, durations, pending⟩ := s.perform_resetnRelease_keeps b
    exact ⟨pending, fun _ _ => ⟨config, durations⟩, fun _ h => absurd rfl (h b), fun _ _ _ _ h => absurd rfl (h b)⟩
  cases host : transactionOf c
  · have same := State.perform_of_event host cold (fun b h => release ⟨b, h⟩) s
    exact ⟨congrArg Background.pending same,
      fun _ _ => ⟨congrArg Background.config same, congrArg Background.durations same⟩,
      fun _ _ => ⟨congrArg Background.ticks same, congrArg Background.tickDivider same⟩,
      fun _ _ _ _ _ => ⟨congrArg Background.port same, congrArg Background.resetnLow same⟩⟩
  · have no_event (event : hostCommandOf c = false) (known : ∀ k o, c ≠ .unknownCommand k o)
        (ended : ∀ o b, c ≠ .transactionNotTaken o b) : False := by
      cases c
      case unknownCommand => exact known _ _ rfl
      case transactionNotTaken => exact ended _ _ rfl
      all_goals exact absurd (event.symm.trans host) Bool.false_ne_true
    obtain ⟨p, same⟩ | ⟨config, p, g, d, n, same⟩ := State.perform_of_transaction host s
    · exact ⟨congrArg Background.pending same,
        fun _ _ => ⟨congrArg Background.config same, congrArg Background.durations same⟩,
        fun _ _ => ⟨congrArg Background.ticks same, congrArg Background.tickDivider same⟩,
        fun event known ended _ _ => (no_event event known ended).elim⟩
    · exact ⟨congrArg Background.pending same, fun _ left => absurd config left,
        fun _ _ => ⟨congrArg Background.ticks same, congrArg Background.tickDivider same⟩,
        fun event known ended _ _ => (no_event event known ended).elim⟩

end Sys2Proof.Machine
end

section
/-! The station's own LEAVE: the host command that enters it (R99, R104) and its frame taken, which parks the station (R27, R50,
R77, R100, R119, R145, R150, R169). -/

namespace Sys2Proof.Machine

set_option Elab.async false

/-! ### The host command (R99) -/

/-- R154: with RESETN high the port takes the command. -/
theorem State.hostTake_of_high {s : State} (high : s.resetnLow = false) (act : State → State) : s.hostTake act = act s := by
  rw [State.hostTake, high, if_neg Bool.false_ne_true]

theorem exec_leave_of_high {s : State} (high : s.resetnLow = false) : exec .leave s = .next s.hostLeave :=
  congrArg Host.Outcome.next (State.hostTake_of_high high State.hostLeave)

/-- R104: only a LEAVE entry answers the request for one. -/
theorem Outbound.holds_leave (o : Outbound) : o.holds .leave = o.entries.any fun e => e.kind == .leave :=
  congrArg o.entries.any (funext fun e => e.kind.answers_eq_beq rfl rfl)

/-- R104: a request that no held entry answers is entered last. -/
theorem State.request_of_unheld {s : State} {k : EntryKind} (unheld : s.outbound.holds k = false) :
    s.request k = { s with outbound := { s.outbound with entries := s.outbound.entries ++ [Entry.fresh k] } } := by
  rw [State.request, Outbound.request, unheld, if_neg Bool.false_ne_true]

/-- Settles O17: the three answers of `hostLeave`, the held entry by `Outbound.holds_leave`. -/
theorem hostLeaveEntersOneEntry : Obligations.HostLeaveEntersOneEntry := by
  unfold Obligations.HostLeaveEntersOneEntry
  intro s high held entry
  have answers : s.outbound.holds .leave = held := s.outbound.holds_leave
  rw [exec_leave_of_high high]
  refine ⟨fun away => ?_, fun synced one => ?_, fun synced none_held => ?_⟩
  · rw [State.hostLeave, if_neg away]
    rfl
  · rw [State.hostLeave, if_pos synced, if_pos (answers.trans one)]
    rfl
  · have unheld : s.outbound.holds .leave = false := answers.trans none_held
    rw [State.hostLeave, if_pos synced, unheld, if_neg Bool.false_ne_true, State.request_of_unheld unheld]
    rfl

/-! ### The frame end (R47, R100) -/

/-- R13, R100: the own LEAVE is the content of its own frame. -/
theorem State.tookContent_ownLeave {s : State} {obs : FrameObs} (sender : obs.cells.sender = s.own) :
    s.tookContent obs .leave = (s.entered obs).ownLeaveTaken :=
  if_pos (sender.trans (s.entered_own_number obs).symm)

/-- R40: only a JOIN is foreign. -/
theorem State.foreignJoin_of_class {s : State} {c : FrameCells} (other : c.frameClass ≠ 2) : s.foreignJoin c = false := by
  simp [State.foreignJoin, other]

/-- R100: at a member the frame end of its own LEAVE, TAKEN and read as it was sent, is `ownLeaveTaken` and no more. -/
theorem State.exec_frameEnd_ownLeave {s : State} {obs : FrameObs} (tracks : s.station.tracksCensus = true)
    (heard : s.HearsTaken obs .leave) (own : s.HearsOwn obs .leave) :
    exec (.frameEnd obs) s = .next (s.entered obs).ownLeaveTaken := by
  obtain ⟨frame, taken, good, parsed, everyone⟩ := heard
  obtain ⟨-, sender, leaves⟩ := id own
  have who : s.HearsMember obs := .inr ⟨_, own⟩
  have closed : s.settledFrame obs.cells = s.closeFrame := congrArg State.closeFrame who.settledFrame
  have counted : s.closeFrame.countMisses obs.rollCall = s.answered :=
    congrArg (fun r : RosterUnit => { s.closeFrame with roster := r }) (RosterUnit.countMisses_answered everyone)
  have applied : s.answered.applyTaken (s.ownAttempt obs.cells) obs.cells obs.standing = (s.entered obs).ownLeaveTaken := by
    rw [State.applyTaken_answered (State.content_eq_some.mpr ⟨good, parsed⟩),
      State.tookEntry_plain (.inr own) rfl rfl, State.tookContent_ownLeave sender]
  have parked : (s.entered obs).ownLeaveTaken.station = .parked := rfl
  have familiar : s.closeFrame.foreignJoin obs.cells = false := State.foreignJoin_of_class (by rw [leaves]; decide)
  refine congrArg Host.Outcome.next ?_
  rw [State.frameEnd_eq frame, who.settledFrame, closed, State.handOn_member (s := s.closeFrame) _ _ tracks,
    State.memberFrameEnd, counted, taken, if_pos rfl, applied, if_pos parked, familiar, State.raiseForeignFor,
    if_neg Bool.false_ne_true]

/-! ### What is given up (R119, R145) -/

/-- R145: the settlement at a clearing, in the words of the obligations. -/
theorem Slot.settle_eq (r : Reason) (b : Slot) :
    b.settle r = match b.state with
      | .waiting => { b with state := .lost, reason := some r, changed := true, dropWanted := false }
      | .granted => { b with state := .lost, reason := some r, changed := true, dropWanted := false }
      | .releasing => { state := .free, mode := none, zones := [], reason := none, changed := true, dropWanted := false }
      | _ => { b with dropWanted := false } := by
  cases x : b.state <;> simp [Slot.settle, Slot.become, x]

/-- R103: where the entry on the line fails a test of kinds, its removal leaves every entry that meets it. -/
theorem State.OutboundFits.filter_offLine {s : State} (fits : s.OutboundFits) {e : Entry} (sent : s.outbound.onLine = some e)
    {p : EntryKind → Bool} (other : p e.kind = false) :
    ((s.outbound.entries.filter fun x => !x.onLine).filter fun x => p x.kind) =
      s.outbound.entries.filter fun x => p x.kind := by
  rw [List.filter_filter]
  refine List.filter_congr fun x held => ?_
  cases on : x.onLine
  · simp
  · rw [fits.eq_of_onLine sent held on, other]
    rfl

/-- R111, R119: a clearing keeps the same entries with an own LEAVE on the line as without it. -/
theorem State.entered_giveUp_outbound {s : State} {obs : FrameObs} (fits : s.OutboundFits) (own : s.HearsOwn obs .leave)
    (r : Reason) : ((s.entered obs).giveUp r).outbound = (s.giveUp r).outbound := by
  obtain ⟨e, sent, leave⟩ := State.HearsOwn.entry own
  have not_claim : s.keepsKind e.kind = false := by rw [leave]; rfl
  have keeps : (s.entered obs).keepsKind = s.keepsKind := by
    funext k
    simp only [State.keepsKind, State.slotAt, s.entered_slots obs]
  rw [State.giveUp_entries, State.giveUp_entries, keeps, ← map_fresh_filter_kind, ← map_fresh_filter_kind,
    State.entered_own own, fits.filter_offLine sent not_claim]

/-- Settles O48: the frame end is `ownLeaveTaken` (R100); the slots by `Slot.settle_eq`, the entries kept by
`giveUp_entries`. -/
theorem ownLeaveParksTheStation : Obligations.OwnLeaveParksTheStation := by
  unfold Obligations.OwnLeaveParksTheStation
  intro obs s inv synced heard own freed settle
  obtain ⟨-, -, -, -, fits, -⟩ := inv
  have slots : (s.entered obs).ownLeaveTaken.slots = s.slots.map settle := by
    change (s.entered obs).slots.map (Slot.settle .left) = _
    rw [s.entered_slots obs]
    exact List.map_congr_left fun b _ => b.settle_eq .left
  have outbound : (s.entered obs).ownLeaveTaken.outbound = (s.giveUp .left).outbound :=
    State.entered_giveUp_outbound fits own .left
  rw [State.giveUp_entries, ← map_fresh_filter_kind] at outbound
  refine ⟨_, State.exec_frameEnd_ownLeave (State.tracksCensus_of_member (.inl synced)) heard own, rfl, rfl, rfl, rfl, ?_,
    slots, by rw [outbound], congrArg Outbound.entries outbound, ?_⟩
  · change (s.entered obs).stopTimers.lease = _
    rw [s.entered_frame obs]
    rfl
  · change { (s.entered obs).attention with state := Source.raised 5 } = _
    rw [s.entered_frame obs]
    rfl

end Sys2Proof.Machine
end

section
/-! The choice among the entries (R105 to R107). -/

namespace Sys2Proof.Machine

set_option Elab.async false

/-! ### Eligibility (R105, R106) -/

/-- R103: no own frame is on the line where no entry is. -/
theorem Outbound.onLine_eq_none (o : Outbound) : o.onLine = none ↔ ∀ e ∈ o.entries, e.onLine = false := by
  simp [Outbound.onLine]

/-- R106: the station-wide condition, with a tracking state at all. -/
theorem State.mayOffer_iff {s : State} (tracked : s.line.tracking ≠ .none) :
    s.mayOffer = true ↔
      s.station ≠ .config ∧ s.station ≠ .listen ∧ s.station ≠ .parked ∧ s.station ≠ .halted ∧
        s.line.condition ≠ .stuck ∧ s.line.tracking ≠ .recovering ∧ ∀ x ∈ s.outbound.entries, x.onLine = false := by
  have drives : s.station.mayDrive = true ↔
      s.station ≠ .config ∧ s.station ≠ .listen ∧ s.station ≠ .parked ∧ s.station ≠ .halted := by
    cases s.station <;> simp [StationState.mayDrive]
  have normal : s.line.condition = .normal ↔ s.line.condition ≠ .stuck := by
    cases s.line.condition <;> simp
  simp only [State.mayOffer, Bool.and_eq_true, drives, beq_iff_eq, normal, bne_iff_ne, ne_eq, Option.isNone_iff_eq_none,
    Outbound.onLine_eq_none, tracked, not_false_eq_true, and_true, and_assoc]

/-- R105: the condition of each kind. -/
theorem State.kindEligible_iff (s : State) (k : EntryKind) :
    s.kindEligible k = true ↔
      match k with
      | .expire _ => s.station = .synced ∧ ¬s.census.joiners ≠ []
      | .leave => s.station = .synced ∧ ¬s.census.joiners ≠ []
      | .join _ => s.station = .joining ∨ s.station = .syncing
      | .census _ =>
        (s.station = .synced ∨ s.station = .syncing) ∧ s.census.designated = some s.own ∧ s.census.joiners ≠ []
      | .drop _ => (s.station = .synced ∧ ¬s.census.joiners ≠ []) ∧ s.outbound.spent = false
      | .claim _ => (s.station = .synced ∧ ¬s.census.joiners ≠ []) ∧ s.outbound.spent = false
      | .pulse => s.station = .synced ∧ s.outbound.spent = false := by
  cases k <;> simp [State.kindEligible, Census.freeze, StationState.tracksCensus, and_assoc]

/-! ### The order of the entries (R107) -/

theorem EntryKind.precedes_iff (a b : EntryKind) :
    a.precedes b = true ↔ a.frameClass < b.frameClass ∨ a.frameClass = b.frameClass ∧ a.target ≤ b.target := by
  simp [EntryKind.precedes]

theorem EntryKind.precedes_trans {a b c : EntryKind} (h : a.precedes b = true) (g : b.precedes c = true) :
    a.precedes c = true := by
  rw [EntryKind.precedes_iff] at *
  omega

theorem EntryKind.precedes_of_not {a b : EntryKind} (h : a.precedes b = false) : b.precedes a = true := by
  rw [Bool.eq_false_iff, ne_eq, EntryKind.precedes_iff] at h
  rw [EntryKind.precedes_iff]
  omega

/-- R107: the entry chosen precedes every later one, and none before it precedes it. -/
theorem chooseEntry_eq_some {l : List Entry} {e : Entry} (h : chooseEntry l = some e) :
    ∃ pre post, l = pre ++ e :: post ∧ (∀ x ∈ pre, x.kind.precedes e.kind = false) ∧
      ∀ x ∈ post, e.kind.precedes x.kind = true := by
  induction l generalizing e with
  | nil => contradiction
  | cons a l ih =>
    rw [chooseEntry] at h
    cases later : chooseEntry l with
    | none =>
      obtain rfl := (chooseEntry_none l).mp later
      rw [later] at h
      obtain rfl := Option.some.inj h
      exact ⟨[], [], rfl, by simp, by simp⟩
    | some b =>
      obtain ⟨pre, post, rfl, before, after⟩ := ih later
      rw [later] at h
      dsimp only at h
      cases first : a.kind.precedes b.kind
      · rw [first, if_neg Bool.false_ne_true] at h
        obtain rfl := Option.some.inj h
        exact ⟨a :: pre, post, rfl, by simpa [first] using before, after⟩
      · rw [first, if_pos rfl] at h
        obtain rfl := Option.some.inj h
        refine ⟨[], pre ++ b :: post, rfl, by simp, fun x hx => ?_⟩
        rcases List.mem_append.mp hx with hx | hx
        · exact EntryKind.precedes_trans first (EntryKind.precedes_of_not (before x hx))
        · rcases List.mem_cons.mp hx with rfl | hx
          · exact first
          · exact EntryKind.precedes_trans first (after x hx)

/-- R107: the entry chosen, in its place in the entry order. -/
theorem State.chosen_eq_some {s : State} {e : Entry} (h : s.chosen = some e) :
    ∃ before after, s.outbound.entries = before ++ e :: after ∧ s.eligible e = true ∧
      (∀ x ∈ before, s.eligible x = true → x.kind.precedes e.kind = false) ∧
      ∀ x ∈ after, s.eligible x = true → e.kind.precedes x.kind = true := by
  obtain ⟨pre, post, split, earlier, later⟩ := chooseEntry_eq_some h
  obtain ⟨before, rest, entries, rfl, rest_eq⟩ := List.filter_eq_append_iff.mp split
  obtain ⟨skipped, after, rfl, ineligible, eligible, rfl⟩ := List.filter_eq_cons_iff.mp rest_eq
  refine ⟨before ++ skipped, after, by simp [entries], eligible, fun x hx offered => ?_, fun x hx offered => ?_⟩
  · rcases List.mem_append.mp hx with hx | hx
    · exact earlier x (List.mem_filter.mpr ⟨hx, offered⟩)
    · exact absurd offered (ineligible x hx)
  · exact later x (List.mem_filter.mpr ⟨hx, offered⟩)

theorem State.chosen_eq_none (s : State) : s.chosen = none ↔ ∀ e ∈ s.outbound.entries, s.eligible e = false := by
  simp [State.chosen, chooseEntry_none, List.filter_eq_nil_iff]

theorem EntryKind.target_of_late {k : EntryKind} (late : k.frameClass = 4 ∨ k.frameClass = 5) : k.target = 0 := by
  cases k <;> simp [EntryKind.frameClass, EntryKind.target] at late ⊢

/-- Settles O28: eligibility by its two conditions; the choice by `chosen_eq_some`, two EXPIRE entries having different
targets (R104). -/
theorem choiceIsLowestThenOldest : Obligations.ChoiceIsLowestThenOldest := by
  unfold Obligations.ChoiceIsLowestThenOldest
  refine ⟨fun s e tracked => ?_, fun s fits => ⟨s.chosen_eq_none, fun e chosen => ?_⟩⟩
  · dsimp only
    rw [State.eligible, Bool.and_eq_true, and_comm]
    exact and_congr (s.kindEligible_iff e.kind) (State.mayOffer_iff tracked)
  · obtain ⟨before, after, entries, eligible, earlier, later⟩ := State.chosen_eq_some chosen
    obtain ⟨apart, -⟩ := fits
    rw [entries] at apart
    have precedes : ∀ x ∈ before ++ after, s.eligible x = true → e.kind.precedes x.kind = true := fun x hx offered =>
      (List.mem_append.mp hx).elim (fun hx => EntryKind.precedes_of_not (earlier x hx offered)) fun hx => later x hx offered
    have other : ∀ x ∈ before ++ after, x.kind ≠ e.kind := fun x hx same => by
      obtain ⟨-, chosen_apart, across⟩ := List.pairwise_append.mp apart
      rcases List.mem_append.mp hx with hx | hx
      · have := across x hx e List.mem_cons_self
        rw [same, EntryKind.answers_self] at this
        contradiction
      · have := (List.pairwise_cons.mp chosen_apart).1 x hx
        rw [same, EntryKind.answers_self] at this
        contradiction
    refine ⟨before, after, entries, eligible, fun x hx offered => ?_, fun i j expires x hx target => ?_,
      fun x hx offered late same => ?_⟩
    · have := (EntryKind.precedes_iff _ _).mp (precedes x hx offered)
      omega
    · have offered : s.eligible x = true := by
        rw [State.eligible, expires] at eligible
        rw [State.eligible, target]
        exact eligible
      have first := (EntryKind.precedes_iff _ _).mp (precedes x hx offered)
      have distinct := other x hx
      rw [expires, target] at distinct first
      simp only [EntryKind.frameClass, EntryKind.target, ne_eq, EntryKind.expire.injEq] at distinct first
      omega
    · have loses := earlier x hx offered
      rw [Bool.eq_false_iff, ne_eq, EntryKind.precedes_iff, EntryKind.target_of_late late,
        EntryKind.target_of_late (same ▸ late)] at loses
      omega

end Sys2Proof.Machine
end

section
/-! Lost key arbitration (R110, R118, R128, R141). -/

namespace Sys2Proof.Machine

set_option Elab.async false

/-- R128: with the own attempt on the line the loss ends it uncounted and releases LTX. -/
theorem State.arbitrationLoss_of_sent {s : State} {e : Entry} (frame : s.line.tracking = .frame)
    (sent : s.outbound.onLine = some e) : s.arbitrationLoss = (s.endAttempt false).stopDriving :=
  if_pos ⟨frame, by simp [sent]⟩

/-- R118: an attempt whose withdrawal waits goes, and no slot with it where no drop-wanted one is the entry's. -/
theorem State.endAttempt_withdrawn_plain {s : State} {e : Entry} (sent : s.outbound.onLine = some e)
    (waits : e.withdrawn = true) (kept : ∀ k, e.kind = .claim k → (s.slotAt k).dropWanted = false) (counted : Bool) :
    s.endAttempt counted = { s with outbound := { s.outbound with
      entries := s.outbound.entries.filter (fun x => !x.onLine), sending := [] } } := by
  simp only [State.endAttempt, sent, waits, if_true]
  obtain x | ⟨k, claim, wanted, -⟩ := State.settleDropWanted_cases e.kind
    { s with outbound := { s.outbound with entries := s.outbound.entries.filter (fun x => !x.onLine), sending := [] } }
  · exact x
  · exact absurd ((kept k claim).symm.trans wanted) Bool.false_ne_true

/-- R123: where no frame is sent, no bit but an end bit counts as sent as REST. -/
theorem sentLevel_nil {position : Nat} (no_end : position % 10 ≠ 9) : sentLevel [] position = .drive := by
  unfold sentLevel
  split
  · rfl
  · contradiction
  · simp

/-- R128: a data bit of the key cell that the station sends as REST and reads as DRIVE is lost key arbitration. -/
theorem State.frameBit_lost {s : State} {e : Entry} {x : Rx} (sent : s.outbound.onLine = some e)
    (following : s.line.rx = some x) (low : 1 ≤ x.position) (high : x.position ≤ 8)
    (rested : sentLevel s.outbound.sending x.position = .rest) :
    s.frameBit .drive = (s.setRx { x with position := x.position + 1, cell := x.cell ++ [false] }).arbitrationLoss := by
  have inside : x.position < x.cellBits := by
    unfold Rx.cellBits
    split <;> omega
  have place : x.position % 10 = x.position := Nat.mod_eq_of_lt (by omega)
  have key : x.position / 10 = 0 := Nat.div_eq_of_lt (by omega)
  have own_bit : x.position < 10 * s.outbound.sending.length := by
    by_contra none_sent
    have empty : s.outbound.sending = [] := List.eq_nil_of_length_eq_zero (by omega)
    rw [empty, sentLevel_nil (by omega)] at rested
    contradiction
  have conflict : s.conflict x .drive = true := (State.conflict_iff s x .drive).mpr ⟨by simp [sent], rfl, own_bit, rested⟩
  rw [State.frameBit_cell following inside, State.cellBit]
  simp only [place, key, conflict, show ¬x.position = 0 by omega, show x.position < 9 by omega, if_true, if_false]
  rfl

/-- Settles O34: the three ends of an attempt by the lemmas on `endAttempt`; the bit by `frameBit_lost`. -/
theorem arbitrationLossUncounted : Obligations.ArbitrationLossUncounted := by
  unfold Obligations.ArbitrationLossUncounted
  intro s e
  have run : ∀ u : State, exec .arbitrationLoss u = .next u.arbitrationLoss := fun _ => rfl
  simp only [run]
  refine ⟨fun away => ?_, fun frame sent stays => ?_, fun frame sent waits => ⟨fun k claim wanted => ?_, fun kept => ?_⟩,
    fun x frame sent following low high rested => ?_⟩
  · refine congrArg Host.Outcome.next (if_neg fun ⟨frame, sent⟩ => ?_)
    rcases away with elsewhere | idle
    · exact elsewhere frame
    · rw [idle] at sent
      contradiction
  · rw [State.arbitrationLoss_of_sent frame sent, State.endAttempt_returned sent stays]
    rfl
  · rw [State.arbitrationLoss_of_sent frame sent, State.endAttempt, sent]
    simp only [waits, if_true, claim, State.settleDropWanted, EntryKind.claimTag]
    exact congrArg (fun u : State => Host.Outcome.next u.stopDriving) (if_pos wanted)
  · rw [State.arbitrationLoss_of_sent frame sent, State.endAttempt_withdrawn_plain sent waits kept]
    rfl
  · have lost := State.frameBit_lost sent following low high rested
    have ended : (s.frameBit .drive) =
        ((s.setRx { x with position := x.position + 1, cell := x.cell ++ [false] }).endAttempt false).stopDriving :=
      lost.trans (State.arbitrationLoss_of_sent (e := e) frame sent)
    refine ⟨congrArg Host.Outcome.next lost.symm, ?_, ?_⟩
    · rw [ended]
      exact State.endAttempt_onLine false _
    · rw [ended]
      rfl

end Sys2Proof.Machine
end

section
/-! SUPPORT. The conditions of the outbound set (R103 to R105, R109, R119) at a station state, and the changes of the set that
keep them. -/

namespace Sys2Proof.Machine

set_option Elab.async false

/-! ### The conditions -/

/-- R103 to R105, R109, R119: no two entries answer one request, at most one is on the line, only that one can have a
withdrawal waiting, the station state allows every entry, and the one on the line is of a kind that `sent` admits. -/
structure Outbound.SoundIn (o : Outbound) (x : StationState) (sent : EntryKind → Bool) : Prop where
  apart : o.entries.Pairwise fun a b => a.kind.answers b.kind = false
  one : (o.entries.filter fun e => e.onLine).length ≤ 1
  waits : ∀ e ∈ o.entries, e.withdrawn = true → e.onLine = true
  held : ∀ e ∈ o.entries, e.kind.heldIn x = true
  sends : ∀ e ∈ o.entries, e.onLine = true → sent e.kind = true

/-- These with no frame on the line. -/
abbrev Outbound.IdleIn (o : Outbound) (x : StationState) : Prop :=
  o.SoundIn x fun _ => false

theorem Outbound.IdleIn.off {o : Outbound} {x : StationState} (h : o.IdleIn x) : ∀ e ∈ o.entries, e.onLine = false :=
  fun e he => by
    by_contra on
    exact Bool.false_ne_true (h.sends e he (by simpa using on))

theorem Outbound.IdleIn.sound {o : Outbound} {x : StationState} (h : o.IdleIn x) (sent : EntryKind → Bool) :
    o.SoundIn x sent :=
  { h with sends := fun e he on => absurd ((h.off e he).symm.trans on) Bool.false_ne_true }

section
variable {o p : Outbound} {x y : StationState} {sent : EntryKind → Bool}

theorem Outbound.SoundIn.idle (h : o.SoundIn x sent) (off : ∀ e ∈ o.entries, e.onLine = false) : o.IdleIn x :=
  { h with sends := fun e he on => absurd ((off e he).symm.trans on) Bool.false_ne_true }

/-- The conditions at another station state, which allows the entries held. -/
theorem Outbound.SoundIn.at_state (h : o.SoundIn x sent) (held : ∀ e ∈ o.entries, e.kind.heldIn y = true) :
    o.SoundIn y sent :=
  { h with held }

/-! ### Entries removed, returned and made (R104, R109, R118) -/

theorem Outbound.SoundIn.of_sublist (h : o.SoundIn x sent) (sub : p.entries.Sublist o.entries) : p.SoundIn x sent where
  apart := h.apart.sublist sub
  one := (sub.filter _).length_le.trans h.one
  waits e he := h.waits e (sub.subset he)
  held e he := h.held e (sub.subset he)
  sends e he := h.sends e (sub.subset he)

theorem Outbound.SoundIn.discard (h : o.SoundIn x sent) (gone : EntryKind → Bool) : (o.discard gone).SoundIn x sent :=
  h.of_sublist List.filter_sublist

/-- Entries changed in their places, none of them put on the line, keep the conditions. -/
theorem Outbound.SoundIn.map (h : o.SoundIn x sent) {f : Entry → Entry} (entries : p.entries = o.entries.map f)
    (kind : ∀ e, (f e).kind = e.kind) (onLine : ∀ e, (f e).onLine = true → e.onLine = true)
    (waits : ∀ e ∈ o.entries, (f e).withdrawn = true → (f e).onLine = true) : p.SoundIn x sent where
  apart := by
    rw [entries, List.pairwise_map]
    simpa only [kind] using h.apart
  one := by
    rw [entries, List.filter_map, List.length_map]
    exact (List.monotone_filter_right o.entries onLine).length_le.trans h.one
  waits := by
    rw [entries]
    exact List.forall_mem_map.mpr waits
  held := by
    rw [entries]
    exact List.forall_mem_map.mpr fun e he => kind e ▸ h.held e he
  sends := by
    rw [entries]
    exact List.forall_mem_map.mpr fun e he on => kind e ▸ h.sends e he (onLine e on)

/-- R104: a request that the station state allows. -/
theorem Outbound.SoundIn.request (h : o.SoundIn x sent) {k : EntryKind} (allowed : k.heldIn x = true) :
    (o.request k).SoundIn x sent := by
  obtain ⟨-, same⟩ | ⟨unheld, made⟩ := o.request_cases k
  · rwa [same]
  · rw [made]
    have apart : ∀ e ∈ o.entries, e.kind.answers k = false := by simpa [Outbound.holds] using unheld
    refine ⟨?_, ?_, ?_, ?_, ?_⟩
    · exact List.pairwise_append.mpr ⟨h.apart, List.pairwise_singleton _ _, fun e he n hn => by
        rw [List.mem_singleton.mp hn]
        exact apart e he⟩
    · simpa [Entry.fresh] using h.one
    · simpa [or_imp, forall_and, Entry.fresh] using h.waits
    · simpa [or_imp, forall_and, Entry.fresh, allowed] using h.held
    · simpa [or_imp, forall_and, Entry.fresh] using h.sends

/-- R109, R118: a withdrawal requested between frame ends. -/
theorem Outbound.SoundIn.withdraw (h : o.SoundIn x sent) (k : EntryKind) : (o.withdraw k).SoundIn x sent := by
  have kept : ({ o with entries := o.entries.filter fun e => !(e.kind == k && !e.onLine) } : Outbound).SoundIn x sent :=
    h.of_sublist List.filter_sublist
  refine kept.map rfl (fun e => ?_) (fun e on => ?_) fun e he waits => ?_
  · split <;> rfl
  · split at on <;> exact on
  · obtain ⟨stood, stays⟩ := List.mem_filter.mp he
    split
    · rename_i withdrawn
      simpa [withdrawn] using stays
    · rename_i other
      rw [if_neg other] at waits
      exact h.waits e stood waits

end

/-! ### The own attempt (R107, R110 to R113) -/

section
variable {s : State} {x : StationState} {sent : EntryKind → Bool}

/-- R103: only one entry is on the line. -/
theorem Outbound.SoundIn.eq_of_onLine {o : Outbound} (h : o.SoundIn x sent) {a b : Entry} (ha : a ∈ o.entries)
    (hb : b ∈ o.entries) (a_on : a.onLine = true) (b_on : b.onLine = true) : a = b := by
  have ha' : a ∈ o.entries.filter fun e => e.onLine := List.mem_filter.mpr ⟨ha, a_on⟩
  have hb' : b ∈ o.entries.filter fun e => e.onLine := List.mem_filter.mpr ⟨hb, b_on⟩
  have one := h.one
  revert ha' hb' one
  generalize o.entries.filter (fun e => e.onLine) = l
  match l with
  | [] => simp
  | [c] => simp +contextual
  | _ :: _ :: _ => simp

/-- R104: no two entries are of the same kind. -/
theorem Outbound.SoundIn.kinds_nodup {o : Outbound} (h : o.SoundIn x sent) : (o.entries.map Entry.kind).Nodup :=
  List.pairwise_map.mpr (h.apart.imp fun {a b} apart same => by
    rw [same, EntryKind.answers_self] at apart
    contradiction)

/-- R110, R112, R113: the end of an attempt without TAKEN. -/
theorem Outbound.SoundIn.endAttempt (h : s.outbound.SoundIn x sent) (counted : Bool) :
    (s.endAttempt counted).outbound.IdleIn x := by
  refine Outbound.SoundIn.idle (sent := sent) ?_ ((Outbound.onLine_eq_none _).mp (s.endAttempt_onLine counted))
  obtain ⟨-, same⟩ | ⟨e, -, -, same⟩ | ⟨e, on_line, stays, -⟩ := s.endAttempt_cases counted
  · rwa [same]
  · rw [same, State.settleDropWanted_outbound]
    exact h.of_sublist List.filter_sublist
  · rw [State.endAttempt_returned on_line stays]
    refine h.map rfl (Entry.returned_kind counted) (fun y on => ?_) fun y hy waits => ?_
    · rw [Entry.returned_onLine] at on
      contradiction
    · obtain ⟨he, e_on⟩ := s.outbound.onLine_some e on_line
      have waits : y.withdrawn = true := by unfold Entry.returned at waits; split at waits <;> exact waits
      rw [h.eq_of_onLine hy he (h.waits y hy waits) e_on, stays] at waits
      contradiction

/-- R111: the TAKEN outcome of an own frame. -/
theorem Outbound.SoundIn.takeEntry (h : s.outbound.SoundIn x sent) : s.takeEntry.outbound.IdleIn x := by
  obtain ⟨none_on, same⟩ | ⟨e, -, taken⟩ := s.takeEntry_cases
  · rw [same]
    exact h.idle ((Outbound.onLine_eq_none _).mp none_on)
  · rw [taken]
    refine Outbound.SoundIn.idle (h.of_sublist List.filter_sublist) fun y hy => ?_
    simpa using (List.mem_filter.mp hy).2

/-- R105: an entry is eligible only in a station state in which its frame can be on the line. -/
theorem State.sentIn_of_kindEligible {k : EntryKind} (h : s.kindEligible k = true) : k.sentIn s.station = true := by
  rw [State.kindEligible_iff] at h
  cases k <;> simp only [EntryKind.sentIn, StationState.tracksCensus, Bool.or_eq_true, beq_iff_eq]
  case join => exact h
  case drop =>
    obtain ⟨⟨synced, -⟩, -⟩ := h
    exact synced
  case claim =>
    obtain ⟨⟨synced, -⟩, -⟩ := h
    exact synced
  all_goals
    obtain ⟨allowed, -⟩ := h
    exact allowed

/-- R107: the chosen entry goes on the line. -/
theorem Outbound.SoundIn.ask (h : s.outbound.SoundIn s.station fun k => k.sentIn s.station) :
    s.ask.outbound.SoundIn s.station fun k => k.sentIn s.station := by
  obtain ⟨-, same⟩ | ⟨e, chosen, asked⟩ := s.ask_cases
  · rwa [same]
  · obtain ⟨_, _, -, eligible, -⟩ := State.chosen_eq_some chosen
    simp only [State.eligible, State.mayOffer, Bool.and_eq_true, Option.isNone_iff_eq_none, Outbound.onLine_eq_none]
      at eligible
    obtain ⟨⟨-, off⟩, allowed⟩ := eligible
    have put : ∀ y ∈ s.outbound.entries, (if y.kind = e.kind then { y with onLine := true } else y).onLine =
        (y.kind == e.kind) := fun y hy => by
      split
      · simp_all
      · simp_all
    rw [asked]
    refine ⟨?_, ?_, ?_, ?_, ?_⟩
    · refine List.pairwise_map.mpr (h.apart.imp fun {a b} apart => ?_)
      split <;> split <;> exact apart
    · rw [List.filter_map, List.length_map]
      refine le_trans (le_of_eq ?_) (List.nodup_iff_count_le_one.mp h.kinds_nodup e.kind)
      rw [List.count, List.countP_map, List.countP_eq_length_filter]
      exact congrArg List.length (List.filter_congr put)
    · refine List.forall_mem_map.mpr fun y hy waits => ?_
      have waits : y.withdrawn = true := by split at waits <;> exact waits
      exact absurd ((off y hy).symm.trans (h.waits y hy waits)) Bool.false_ne_true
    · refine List.forall_mem_map.mpr fun y hy => ?_
      split <;> exact h.held y hy
    · refine List.forall_mem_map.mpr fun y hy on => ?_
      rw [put y hy, beq_iff_eq] at on
      rw [if_pos on]
      exact on ▸ State.sentIn_of_kindEligible allowed

/-- R119: what a clearing keeps stands in every station state. -/
theorem Outbound.SoundIn.giveUp (h : s.outbound.SoundIn x sent) (r : Reason) (y : StationState) :
    (s.giveUp r).outbound.IdleIn y := by
  rw [State.giveUp_entries]
  have fresh : ∀ e ∈ ((s.outbound.entries.map Entry.kind).filter s.keepsKind).map Entry.fresh,
      e.onLine = false ∧ e.withdrawn = false ∧ e.kind.heldIn y = true := List.forall_mem_map.mpr fun k hk => by
    have kept := (List.mem_filter.mp hk).2
    cases k <;> simp [State.keepsKind] at kept
    exact ⟨rfl, rfl, rfl⟩
  have off : (((s.outbound.entries.map Entry.kind).filter s.keepsKind).map Entry.fresh).filter (fun e => e.onLine) = [] :=
    List.filter_eq_nil_iff.mpr fun e he => by
      obtain ⟨off, -, -⟩ := fresh e he
      simp [off]
  refine ⟨?_, ?_, fun e he waits => ?_, fun e he => ?_, fun e he on => ?_⟩
  · exact List.pairwise_map.mpr ((List.pairwise_map.mpr h.apart).sublist List.filter_sublist)
  · rw [off]
    exact Nat.zero_le 1
  · obtain ⟨-, free, -⟩ := fresh e he
    exact absurd (free.symm.trans waits) Bool.false_ne_true
  · obtain ⟨-, -, held⟩ := fresh e he
    exact held
  · obtain ⟨off, -, -⟩ := fresh e he
    exact absurd (off.symm.trans on) Bool.false_ne_true

end

end Sys2Proof.Machine
end

section
/-! SUPPORT. The conditions of the outbound set through a frame end (R47): the content of a TAKEN frame, the evictions and the
lease unit's work. -/

namespace Sys2Proof.Machine

set_option Elab.async false

/-! ### The content of a TAKEN frame (R47) -/

section
variable {s : State} {x : StationState} {sent : EntryKind → Bool}

/-- R87: the CENSUS entry is made only at a census tracker. -/
theorem Outbound.SoundIn.keepCensusEntry (h : s.outbound.SoundIn x sent)
    (tracks : s.census.freeze = true → x.tracksCensus = true) : s.keepCensusEntry.outbound.SoundIn x sent := by
  unfold State.keepCensusEntry
  split
  · rename_i due
    exact h.request (by simp [EntryKind.heldIn, tracks due.1])
  · exact h.discard _

theorem Outbound.SoundIn.progressChanged (h : s.outbound.SoundIn x sent) (tracks : x.tracksCensus = true) :
    s.progressChanged.outbound.SoundIn x sent := by
  have made : (s.discard EntryKind.isCensus).keepCensusEntry.outbound.SoundIn x sent :=
    Outbound.SoundIn.keepCensusEntry (h.discard _) fun _ => tracks
  unfold State.progressChanged
  dsimp only
  split
  · exact made.discard _
  · exact made

theorem Outbound.SoundIn.resetRun (h : s.outbound.SoundIn x sent) (tracks : x.tracksCensus = true) :
    s.resetRun.outbound.SoundIn x sent := by
  refine Outbound.SoundIn.progressChanged ?_ tracks
  rwa [State.redesignate_outbound]

theorem Outbound.SoundIn.joinTaken (h : s.outbound.SoundIn x sent) (tracks : x.tracksCensus = true) (j : Nat) (pass : Bool)
    (standing : StationSet) : (s.joinTaken j pass standing).outbound.SoundIn x sent := by
  refine Outbound.SoundIn.resetRun ?_ tracks
  dsimp only
  split
  · rwa [State.removeRecords_outbound]
  · exact h

theorem Outbound.SoundIn.leaveTaken (h : s.outbound.SoundIn x sent) (tracks : x.tracksCensus = true) (sender : Nat) :
    (s.leaveTaken sender).outbound.SoundIn x sent := by
  refine Outbound.SoundIn.keepCensusEntry ?_ fun _ => tracks
  rwa [State.redesignate_outbound, State.removeRecords_outbound]

theorem Outbound.SoundIn.slotPlaced (h : s.outbound.SoundIn x sent) (tag : Nat) (p : Placement) :
    (s.slotPlaced tag p).outbound.SoundIn x sent := by
  obtain same | made := s.slotPlaced_outbound tag p
  · rwa [same]
  · rw [made]
    exact h.request rfl

theorem Outbound.SoundIn.claimTaken (h : s.outbound.SoundIn x sent) (sender tag : Nat) (m : Mode) (zones : List Nat) :
    (s.claimTaken sender tag m zones).outbound.SoundIn x sent := by
  unfold State.claimTaken
  dsimp only
  split
  · refine Outbound.SoundIn.slotPlaced ?_ _ _
    rwa [State.slotsGranted_outbound]
  · rwa [State.slotsGranted_outbound]

theorem Outbound.SoundIn.slotsExpired (l : List Nat) (h : s.outbound.SoundIn x sent) :
    (l.foldl State.slotExpired s).outbound.SoundIn x sent := by
  induction l generalizing s with
  | nil => exact h
  | cons k l ih =>
    refine ih ?_
    unfold State.slotExpired
    cases (s.slotAt k).state
    case releasing => exact h.discard fun x => x == .drop k
    case lost => exact h.discard fun x => x == .drop k
    all_goals exact h

theorem Outbound.SoundIn.expireTaken (h : s.outbound.SoundIn x sent) (target : Nat) :
    (s.expireTaken target).outbound.SoundIn x sent := by
  unfold State.expireTaken
  dsimp only
  split
  · refine Outbound.SoundIn.slotsExpired _ ?_
    rwa [State.removeRecords_outbound]
  · rwa [State.removeRecords_outbound]

/-- R94, R119: every entry that stands in SYNCING but its JOIN may stand in SYNCED. -/
theorem EntryKind.heldIn_synced {k : EntryKind} (syncing : k.heldIn .syncing = true) (join : k.isJoin = false) :
    k.heldIn .synced = true := by
  cases k <;> simp [EntryKind.heldIn, EntryKind.isJoin, StationState.tracksCensus] at syncing join ⊢

/-- R89, R91, R92: a CENSUS part taken, which may install a table. -/
theorem Outbound.SoundIn.censusTaken (h : s.outbound.SoundIn s.station sent) (tracks : s.station.tracksCensus = true)
    (p : Part) : (s.censusTaken p).outbound.SoundIn (s.censusTaken p).station sent := by
  have station : (s.censusTaken p).station = if s.installs p then .synced else s.station := by
    rw [State.censusTaken_frame]
  have kept : (s.censusTaken p).outbound.SoundIn s.station sent := by
    by_cases last : s.LastPart p
    · unfold State.censusTaken
      rw [if_pos last]
      split
      · exact (h.discard EntryKind.isCensus).discard EntryKind.isJoin
      · exact h.discard EntryKind.isCensus
    · rw [State.censusTaken_of_not_last last]
      exact Outbound.SoundIn.progressChanged h tracks
  rw [station]
  split
  · rename_i installs
    exact kept.at_state fun e he =>
      EntryKind.heldIn_synced (installs.1 ▸ kept.held e he) (State.censusTaken_no_join installs.1 e he)
  · exact kept

/-- R47: the content of a TAKEN frame at a member. -/
theorem Outbound.SoundIn.applyContent (h : s.outbound.SoundIn s.station sent) (tracks : s.station.tracksCensus = true)
    (sender : Nat) (f : Frame) (standing : StationSet) :
    (s.applyContent sender f standing).outbound.SoundIn (s.applyContent sender f standing).station sent := by
  rcases s.applyContent_cases sender f standing with ⟨pass, -, y⟩ | ⟨p, -, y⟩ | ⟨tag, m, zones, -, -, y⟩ |
    ⟨tag, -, -, y⟩ | ⟨target, -, -, y⟩ | ⟨-, -, y⟩ | ⟨-, -, y⟩ | y <;> rw [y]
  · have station : (s.joinTaken sender pass standing).station = s.station := by rw [State.joinTaken_frame]
    exact station ▸ Outbound.SoundIn.joinTaken h tracks _ _ _
  · exact Outbound.SoundIn.censusTaken h tracks _
  · have station : (s.claimTaken sender tag m zones).station = s.station := by rw [State.claimTaken_frame]
    exact station ▸ Outbound.SoundIn.claimTaken h _ _ _ _
  · rw [State.dropTaken_frame]
    exact h
  · have station : (s.expireTaken target).station = s.station := by rw [State.expireTaken_frame]
    exact station ▸ Outbound.SoundIn.expireTaken h _
  · exact (Outbound.SoundIn.giveUp h _ _).sound _
  · have station : (s.leaveTaken sender).station = s.station := by rw [State.leaveTaken_frame]
    exact station ▸ Outbound.SoundIn.leaveTaken h tracks _
  · exact h

/-- R81, R100: the freeze is on only at a census tracker, once the content of a frame is applied. -/
theorem State.applyContent_tracks (tracks : s.station.tracksCensus = true) (sender : Nat) (f : Frame)
    (standing : StationSet) :
    (s.applyContent sender f standing).census.freeze = true →
      (s.applyContent sender f standing).station.tracksCensus = true := by
  intro frozen
  obtain leave | ⟨-, same | ⟨-, synced⟩⟩ := s.applyContent_station sender f standing
  · rw [leave] at frozen
    contradiction
  · rwa [same]
  · rw [synced]
    rfl

theorem Outbound.SoundIn.settleTaken (h : s.outbound.SoundIn x sent)
    (tracks : s.census.freeze = true → x.tracksCensus = true) (gone : Option Entry) :
    (s.settleTaken gone).outbound.SoundIn x sent := by
  obtain ⟨_, _, -, -, y⟩ | ⟨_, _, -, -, y⟩ | y := s.settleTaken_cases gone <;> rw [y]
  · exact h.keepCensusEntry tracks
  · exact h
  · exact h

/-- R111: the own entry of a TAKEN frame is gone, so that nothing is on the line; at another's frame nothing was. -/
theorem Outbound.SoundIn.entryTaken (h : s.outbound.SoundIn x sent) {own : Bool}
    (others : own = false → s.outbound.IdleIn x) : (s.entryTaken own).outbound.IdleIn x := by
  unfold State.entryTaken
  rw [State.stepSequence_frame]
  cases own
  · exact others rfl
  · exact h.takeEntry

/-- R47, R111: a TAKEN frame at a member. -/
theorem Outbound.SoundIn.applyTaken (h : s.outbound.SoundIn s.station sent) (tracks : s.station.tracksCensus = true)
    {own : Bool} (others : own = false → s.outbound.IdleIn s.station) (c : FrameCells) (standing : StationSet) :
    (s.applyTaken own c standing).outbound.IdleIn (s.applyTaken own c standing).station := by
  obtain ⟨u, cases_u, e⟩ := s.applyTaken_cases own c standing
  have station : (s.entryTaken own).station = s.station := by rw [State.entryTaken_frame]
  have entry : (s.entryTaken own).outbound.IdleIn (s.entryTaken own).station := by
    rw [station]
    exact h.entryTaken others
  have content : u.outbound.IdleIn u.station ∧ (u.census.freeze = true → u.station.tracksCensus = true) := by
    obtain ⟨-, rfl⟩ | ⟨f, -, rfl⟩ := cases_u
    · exact ⟨entry, fun _ => station ▸ tracks⟩
    · exact ⟨entry.applyContent (station ▸ tracks) _ _ _, State.applyContent_tracks (station ▸ tracks) _ _ _⟩
  rw [e]
  split
  · rw [(State.SameCell.settleTaken u s.outbound.onLine).station]
    exact Outbound.SoundIn.settleTaken content.1 content.2 _
  · exact content.1

/-! ### The evictions and the lease unit's work (R52, R69 to R73) -/

theorem Outbound.SoundIn.evict (h : s.outbound.SoundIn x sent) (tracks : x.tracksCensus = true) (gone : StationSet) :
    (s.evict gone).outbound.SoundIn x sent := by
  have removed : (s.removeRecords fun o _ => gone.contains o).outbound.SoundIn x sent := by
    rwa [State.removeRecords_outbound]
  unfold State.evict
  dsimp only
  split
  · split
    · exact Outbound.SoundIn.resetRun removed tracks
    · exact Outbound.SoundIn.progressChanged (removed.discard EntryKind.isCensus) tracks
  · rwa [State.redesignate_outbound]

/-- R68, R70: EXPIRE entries are entered in SYNCED. -/
theorem Outbound.SoundIn.requests (l : List Lease) (h : s.outbound.SoundIn .synced sent) :
    (l.foldl (fun u x => u.request (.expire x.peer)) s).outbound.SoundIn .synced sent := by
  induction l generalizing s with
  | nil => exact h
  | cons a l ih => exact ih (h.request rfl)

theorem Outbound.SoundIn.leaseWork (h : s.outbound.SoundIn s.station sent) (renewed expired : Option Nat)
    (own frozen : Bool) : (s.leaseWork renewed expired own frozen).outbound.SoundIn s.station sent := by
  have moot : ((({ s with lease := { s.lease with leases := s.leasesAfter renewed } }).ownTimersAfter own).discard
      (s.mootAtEnd renewed expired own)).outbound.SoundIn s.station sent := by
    rw [State.discard_outbound, State.ownTimersAfter_outbound]
    exact h.discard _
  by_cases defers : s.Defers frozen
  · obtain ⟨-, -, synced⟩ := id defers
    rw [State.leaseWork_of_defers defers, State.enterDeferred]
    rw [synced] at moot ⊢
    exact moot.requests _
  · rwa [State.leaseWork_of_not_defers defers]

/-- R52: a member after the evictions of a frame end. -/
def State.evictedAtEnd (s : State) : State :=
  if s.toEvict.isEmpty then s else s.evict s.toEvict

/-- R52, R112: and after the end of its own VOID attempt. -/
def State.attemptAtEnd (s : State) (void : Bool) : State :=
  if void then s.evictedAtEnd.endAttempt true else s.evictedAtEnd

/-- R71: the lease unit's work comes last. -/
theorem State.leasedAtEnd_eq (s before : State) (own : Bool) (obs : FrameObs) :
    ∃ renewed expired, s.leasedAtEnd before own obs =
      (s.attemptAtEnd (own && !obs.taken)).leaseWork renewed expired (own && obs.taken) before.census.freeze :=
  ⟨_, _, rfl⟩

theorem State.evictedAtEnd_frame (s : State) :
    s.evictedAtEnd.station = s.station ∧ s.evictedAtEnd.config = s.config ∧ s.evictedAtEnd.line = s.line := by
  unfold State.evictedAtEnd
  split
  · exact ⟨rfl, rfl, rfl⟩
  · rw [State.evict_frame]
    exact ⟨rfl, rfl, rfl⟩

theorem State.attemptAtEnd_frame (s : State) (void : Bool) :
    (s.attemptAtEnd void).station = s.station ∧ (s.attemptAtEnd void).config = s.config ∧
      (s.attemptAtEnd void).line = s.line := by
  unfold State.attemptAtEnd
  split
  · rw [State.endAttempt_frame]
    exact s.evictedAtEnd_frame
  · exact s.evictedAtEnd_frame

theorem State.leasedAtEnd_frame (s before : State) (own : Bool) (obs : FrameObs) :
    (s.leasedAtEnd before own obs).station = s.station ∧ (s.leasedAtEnd before own obs).config = s.config ∧
      (s.leasedAtEnd before own obs).line = s.line := by
  obtain ⟨renewed, expired, same⟩ := s.leasedAtEnd_eq before own obs
  rw [same, State.leaseWork_frame]
  exact s.attemptAtEnd_frame _

theorem Outbound.SoundIn.evictedAtEnd (h : s.outbound.SoundIn s.station sent) (tracks : s.station.tracksCensus = true) :
    s.evictedAtEnd.outbound.SoundIn s.station sent := by
  unfold State.evictedAtEnd
  split
  · exact h
  · exact Outbound.SoundIn.evict h tracks _

/-- R52, R71, R112: after the evictions, the end of the own VOID attempt and the lease unit's work nothing is on the line. -/
theorem Outbound.SoundIn.leasedAtEnd (h : s.outbound.SoundIn s.station sent) (tracks : s.station.tracksCensus = true)
    {own : Bool} {obs : FrameObs} (others : (own && !obs.taken) = false → s.outbound.IdleIn s.station) (before : State) :
    (s.leasedAtEnd before own obs).outbound.IdleIn (s.leasedAtEnd before own obs).station := by
  have ended : (s.attemptAtEnd (own && !obs.taken)).outbound.IdleIn s.station := by
    cases void : own && !obs.taken
    · exact Outbound.SoundIn.evictedAtEnd (others void) tracks
    · exact (Outbound.SoundIn.evictedAtEnd h tracks).endAttempt true
  obtain ⟨renewed, expired, same⟩ := s.leasedAtEnd_eq before own obs
  rw [(s.leasedAtEnd_frame before own obs).1, same]
  rw [← (s.attemptAtEnd_frame (own && !obs.taken)).1] at ended ⊢
  exact Outbound.SoundIn.leaseWork ended _ _ _ _

end

end Sys2Proof.Machine
end

section
/-! SUPPORT. The outbound set and the line after a frame end (R47): the retry counts, the exhaustion of an entry, and the line
released where the station may not drive. -/

namespace Sys2Proof.Machine

set_option Elab.async false

/-! ### The conditions of outbound set and line -/

/-- R103 to R105, R109, R114, R119, R168: what every step keeps of the outbound set and the line. -/
abbrev State.OutboundKept (s : State) : Prop :=
  s.OutboundFits ∧ s.EntriesWhere ∧ s.SilentWhere

section
variable {s t : State} {x : StationState} {sent : EntryKind → Bool}

theorem State.OutboundKept.sound (h : s.OutboundKept) : s.outbound.SoundIn s.station fun k => k.sentIn s.station := by
  obtain ⟨⟨apart, one, waits, -, -⟩, places, -⟩ := h
  exact ⟨apart, one, waits, fun e he => (places e he).1, fun e he => (places e he).2⟩

theorem State.OutboundKept.retries (h : s.OutboundKept) : ∀ e ∈ s.outbound.entries, e.retries < s.retryLimit := by
  obtain ⟨⟨-, -, -, retries, -⟩, -⟩ := h
  exact retries

theorem State.OutboundKept.unconfigured (h : s.OutboundKept) : s.station = .config → s.outbound.entries = [] := by
  obtain ⟨⟨-, -, -, -, unconfigured⟩, -⟩ := h
  exact unconfigured

theorem State.OutboundKept.silent (h : s.OutboundKept) : s.SilentWhere := by
  obtain ⟨-, -, silent⟩ := h
  exact silent

theorem Outbound.SoundIn.kept (h : s.outbound.SoundIn s.station fun k => k.sentIn s.station)
    (retries : ∀ e ∈ s.outbound.entries, e.retries < s.retryLimit)
    (unconfigured : s.station = .config → s.outbound.entries = []) (silent : s.SilentWhere) : s.OutboundKept :=
  ⟨⟨h.apart, h.one, h.waits, retries, unconfigured⟩, fun e he => ⟨h.held e he, h.sends e he⟩, silent⟩

theorem State.silentWhere_of_rest (released : s.line.ltx = .rest) : s.SilentWhere := fun _ => released

/-- R168: the line stands, and a station that may drive may still drive. -/
theorem State.SilentWhere.of_line (h : s.SilentWhere) (ltx : t.line.ltx = s.line.ltx)
    (condition : t.line.condition = s.line.condition) (drives : s.station.mayDrive = true → t.station.mayDrive = true) :
    t.SilentWhere := fun must => by
  rw [ltx]
  refine h (must.imp (fun silent => ?_) fun stuck => condition.symm.trans stuck)
  by_contra may
  exact Bool.false_ne_true (silent.symm.trans (drives (by simpa using may)))

/-- The station state, the configuration and the entries stand. -/
theorem State.OutboundKept.of_eq (h : s.OutboundKept) (station : t.station = s.station) (config : t.config = s.config)
    (entries : t.outbound.entries = s.outbound.entries) (silent : t.SilentWhere) : t.OutboundKept := by
  obtain ⟨fits, places, -⟩ := h
  refine ⟨?_, ?_, silent⟩
  · rwa [State.OutboundFits, State.retryLimit, station, config, entries]
  · rwa [State.EntriesWhere, station, entries]

/-! ### The halt and what is given up (R119, R174, R177) -/

/-- R119: the entries that a halt keeps. -/
theorem EntryKind.heldIn_halted {k : EntryKind} (held : k.heldIn x = true) (join : k.isJoin = false) :
    k.heldIn .halted = true := by
  cases k <;> simp [EntryKind.heldIn, EntryKind.isJoin] at held join ⊢

theorem State.outboundKept_halt (idle : s.outbound.IdleIn x)
    (retries : ∀ e ∈ s.outbound.entries, e.kind.isJoin = false → e.retries < s.retryLimit) (cause : HaltCause) :
    (s.halt cause).OutboundKept := by
  have kept : (s.outbound.discard EntryKind.isJoin).IdleIn .halted :=
    (idle.discard _).at_state fun e he => by
      obtain ⟨stood, join⟩ := List.mem_filter.mp he
      exact EntryKind.heldIn_halted (idle.held e stood) (by simpa using join)
  refine Outbound.SoundIn.kept (kept.sound _) (fun e he => ?_) (fun c => by simp at c) (State.silentWhere_of_rest rfl)
  obtain ⟨stood, join⟩ := List.mem_filter.mp he
  exact retries e stood (by simpa using join)

/-- R119: a station that has given up the cell keeps new CLAIM entries alone. -/
theorem State.outboundKept_giveUp (sound : s.outbound.SoundIn x sent) {r : Reason}
    (outbound : t.outbound = (s.giveUp r).outbound) (left : t.station ≠ .config) (limit : 0 < t.retryLimit)
    (released : t.line.ltx = .rest) : t.OutboundKept := by
  refine Outbound.SoundIn.kept ?_ (fun e he => ?_) (fun c => absurd c left) (State.silentWhere_of_rest released)
  · rw [outbound]
    exact (sound.giveUp r _).sound _
  · rw [outbound] at he
    obtain ⟨tag, rfl, -⟩ := State.keepClaims_fresh _ e he
    exact limit

theorem State.outboundKept_selfRestart (sound : s.outbound.SoundIn x sent) (limit : 0 < s.retryLimit) (cause : OutCause) :
    (s.selfRestart cause).OutboundKept :=
  State.outboundKept_giveUp sound (r := .out) rfl (by simp) limit rfl

/-! ### The exhaustion of one entry (R113 to R116) -/

/-- R114: no retry count has come to T but those of entries of one kind. -/
def Outbound.ExhaustsOne (o : Outbound) (limit : Nat) : Prop :=
  ∃ k : EntryKind, ∀ e ∈ o.entries, e.kind = k ∨ e.retries < limit

theorem Outbound.exhaustsOne_of_lt {o : Outbound} {limit : Nat} (h : ∀ e ∈ o.entries, e.retries < limit) :
    o.ExhaustsOne limit :=
  ⟨.pulse, fun e he => .inr (h e he)⟩

theorem Outbound.ExhaustsOne.fails0 {o p : Outbound} {limit : Nat} (h : o.ExhaustsOne limit) (some_try : 0 < limit)
    (same : o.Fails0 p) : p.ExhaustsOne limit := by
  obtain ⟨k, one⟩ := h
  refine ⟨k, fun e he => ?_⟩
  rcases same e he with stood | zero
  · exact one e stood
  · exact .inr (zero ▸ some_try)

/-- R113: an attempt that fails exhausts its own entry at most. -/
theorem Outbound.SoundIn.endAttempt_exhaustsOne (h : s.outbound.SoundIn x sent) {limit : Nat}
    (retries : ∀ e ∈ s.outbound.entries, e.retries < limit) (counted : Bool) :
    (s.endAttempt counted).outbound.ExhaustsOne limit := by
  obtain ⟨-, same⟩ | ⟨e, -, -, same⟩ | ⟨e, on_line, stays, -⟩ := s.endAttempt_cases counted
  · rw [same]
    exact Outbound.exhaustsOne_of_lt retries
  · rw [same, State.settleDropWanted_outbound]
    exact Outbound.exhaustsOne_of_lt fun y hy => retries y (List.mem_filter.mp hy).1
  · rw [State.endAttempt_returned on_line stays]
    obtain ⟨he, e_on⟩ := s.outbound.onLine_some e on_line
    refine ⟨e.kind, List.forall_mem_map.mpr fun y hy => ?_⟩
    cases on : y.onLine
    · refine .inr ?_
      rw [Entry.returned, on]
      exact retries y hy
    · rw [h.eq_of_onLine hy he on e_on]
      exact .inl (Entry.returned_kind counted e)

theorem State.outboundKept_actOnExhaustion (idle : s.outbound.IdleIn s.station)
    (one : s.outbound.ExhaustsOne s.retryLimit) (unconfigured : s.station = .config → s.outbound.entries = [])
    (limit : s.station ≠ .config → 0 < s.retryLimit) (silent : s.SilentWhere) : s.actOnExhaustion.OutboundKept := by
  obtain ⟨retries, same⟩ | ⟨e, he, reached, join, same⟩ | ⟨e, he, -, -, same⟩ := s.actOnExhaustion_cases <;> rw [same]
  · exact Outbound.SoundIn.kept (idle.sound _) retries unconfigured silent
  · refine State.outboundKept_halt idle (fun y hy other => ?_) _
    obtain ⟨k, one⟩ := one
    have exhausted : e.kind = k := (one e he).resolve_right (Nat.not_lt.mpr reached)
    refine (one y hy).resolve_left fun same_kind => ?_
    rw [same_kind, ← exhausted, join] at other
    contradiction
  · refine State.outboundKept_selfRestart idle (limit fun c => ?_) _
    rw [unconfigured c] at he
    contradiction

/-! ### The frame end at a member (R47, R51 to R53, R112, R114) -/

theorem Outbound.Fails0.evictedAtEnd (s : State) : s.outbound.Fails0 s.evictedAtEnd.outbound := by
  unfold State.evictedAtEnd
  split
  · exact .refl _
  · exact .evict s _

/-- R112: only the entry of the own VOID attempt can be exhausted at the end of a frame. -/
theorem Outbound.SoundIn.leasedAtEnd_exhaustsOne (h : s.outbound.SoundIn s.station sent)
    (tracks : s.station.tracksCensus = true) {limit : Nat} (retries : ∀ e ∈ s.outbound.entries, e.retries < limit)
    (some_try : 0 < limit) (before : State) (own : Bool) (obs : FrameObs) :
    (s.leasedAtEnd before own obs).outbound.ExhaustsOne limit := by
  have evicted : ∀ e ∈ s.evictedAtEnd.outbound.entries, e.retries < limit := fun e he =>
    (Outbound.Fails0.evictedAtEnd s e he).elim (retries e) fun zero => zero ▸ some_try
  obtain ⟨renewed, expired, same⟩ := s.leasedAtEnd_eq before own obs
  rw [same]
  refine Outbound.ExhaustsOne.fails0 ?_ some_try (.leaseWork _ _ _ _ _)
  unfold State.attemptAtEnd
  split
  · exact (Outbound.SoundIn.evictedAtEnd h tracks).endAttempt_exhaustsOne evicted true
  · exact Outbound.exhaustsOne_of_lt evicted

theorem StationState.mayDrive_of_tracksCensus (h : x.tracksCensus = true) : x.mayDrive = true := by
  revert h
  cases x <;> simp [StationState.tracksCensus, StationState.mayDrive]

theorem StationState.left_of_tracksCensus (h : x.tracksCensus = true) : x ≠ .config := by
  rintro rfl
  contradiction

theorem State.outboundKept_finishMember (sound : s.outbound.SoundIn s.station sent)
    (tracks : s.station.tracksCensus = true) {own : Bool} {obs : FrameObs}
    (others : (own && !obs.taken) = false → s.outbound.IdleIn s.station)
    (retries : ∀ e ∈ s.outbound.entries, e.retries < s.retryLimit) (limit : 0 < s.retryLimit) (silent : s.SilentWhere)
    (before : State) : (s.finishMember before own obs).OutboundKept := by
  obtain ⟨station, config, line⟩ := s.leasedAtEnd_frame before own obs
  have idle := sound.leasedAtEnd tracks others before
  have one := sound.leasedAtEnd_exhaustsOne tracks retries limit before own obs
  have same_limit : (s.leasedAtEnd before own obs).retryLimit = s.retryLimit := by
    rw [State.retryLimit, State.retryLimit, config]
  rw [State.finishMember_eq]
  split
  · exact State.outboundKept_selfRestart idle (same_limit ▸ limit) _
  · rw [State.raiseRosterFor_frame]
    refine State.outboundKept_actOnExhaustion idle ?_ (fun c => ?_) (fun _ => ?_) ?_
    · exact same_limit ▸ one
    · exact absurd (station.symm.trans c) (StationState.left_of_tracksCensus tracks)
    · exact same_limit ▸ limit
    · exact silent.of_line (congrArg LineUnit.ltx line) (congrArg LineUnit.condition line) fun may => station ▸ may

/-- R26, R100: the content of a TAKEN frame parks a member with LTX released, or leaves it a member with its line as it was. -/
theorem State.applyContent_member (tracks : s.station.tracksCensus = true) (sender : Nat) (f : Frame) (standing : StationSet) :
    ((s.applyContent sender f standing).station = .parked ∧ (s.applyContent sender f standing).line.ltx = .rest) ∨
      ((s.applyContent sender f standing).station.tracksCensus = true ∧
        (s.applyContent sender f standing).line = s.line) := by
  obtain leave | ⟨-, station⟩ := s.applyContent_station sender f standing
  · rw [leave]
    exact .inl ⟨rfl, rfl⟩
  · have stays : (s.applyContent sender f standing).station.tracksCensus = true := by
      rcases station with same | ⟨-, synced⟩
      · rwa [same]
      · rw [synced]
        rfl
    obtain ⟨line, -⟩ | ⟨parked, -⟩ := s.applyContent_line sender f standing
    · exact .inr ⟨stays, line⟩
    · rw [parked] at stays
      contradiction

theorem State.applyTaken_member (tracks : s.station.tracksCensus = true) (own : Bool) (c : FrameCells)
    (standing : StationSet) :
    ((s.applyTaken own c standing).station = .parked ∧ (s.applyTaken own c standing).line.ltx = .rest) ∨
      ((s.applyTaken own c standing).station.tracksCensus = true ∧ (s.applyTaken own c standing).line = s.line) := by
  obtain ⟨u, cases_u, e⟩ := s.applyTaken_cases own c standing
  have station : (s.entryTaken own).station = s.station := by rw [State.entryTaken_frame]
  have line : (s.entryTaken own).line = s.line := by rw [State.entryTaken_frame]
  have content : (u.station = .parked ∧ u.line.ltx = .rest) ∨ (u.station.tracksCensus = true ∧ u.line = s.line) := by
    obtain ⟨-, rfl⟩ | ⟨f, -, rfl⟩ := cases_u
    · exact .inr ⟨station ▸ tracks, line⟩
    · rw [← line]
      exact State.applyContent_member (station ▸ tracks) _ _ _
  rw [e]
  split
  · rwa [State.settleTaken_frame]
  · exact content

/-- R47, R111: a TAKEN frame at a member leaves nothing on the line, and parks it or leaves it a member. -/
theorem State.OutboundKept.applyTaken (h : s.OutboundKept) (limit : 0 < s.retryLimit)
    (tracks : s.station.tracksCensus = true) {own : Bool} (others : own = false → s.outbound.IdleIn s.station)
    (c : FrameCells) (standing : StationSet) :
    (s.applyTaken own c standing).OutboundKept ∧
      (s.applyTaken own c standing).outbound.IdleIn (s.applyTaken own c standing).station ∧
      ((s.applyTaken own c standing).station = .parked ∨ (s.applyTaken own c standing).station.tracksCensus = true) := by
  have idle := Outbound.SoundIn.applyTaken h.sound tracks others c standing
  have same_limit : (s.applyTaken own c standing).retryLimit = s.retryLimit :=
    congrArg (fun b : Background => b.config.retry.toNat) (State.applyTaken_background own c standing s)
  have retries : ∀ e ∈ (s.applyTaken own c standing).outbound.entries, e.retries < s.retryLimit := fun e he =>
    (Outbound.Fails0.applyTaken s own c standing e he).elim (h.retries e) fun zero => zero ▸ limit
  rw [← same_limit] at retries
  obtain ⟨parked, released⟩ | ⟨stays, line⟩ := State.applyTaken_member tracks own c standing
  · exact ⟨Outbound.SoundIn.kept (idle.sound _) retries (fun c => by simp [parked] at c) (State.silentWhere_of_rest released),
      idle, .inl parked⟩
  · refine ⟨Outbound.SoundIn.kept (idle.sound _) retries
      (fun c => absurd c (StationState.left_of_tracksCensus stays)) ?_, idle, .inr stays⟩
    exact h.silent.of_line (congrArg LineUnit.ltx line) (congrArg LineUnit.condition line) fun _ =>
      StationState.mayDrive_of_tracksCensus stays

/-- R47: the frame end at a member in SYNCED or SYNCING. -/
theorem State.OutboundKept.memberFrameEnd (h : s.OutboundKept) (limit : 0 < s.retryLimit)
    (tracks : s.station.tracksCensus = true) {own : Bool} (others : own = false → s.outbound.IdleIn s.station)
    (obs : FrameObs) : (s.memberFrameEnd own obs).OutboundKept := by
  have finished : ∀ v : State, v.OutboundKept → ((own && !obs.taken) = false → v.outbound.IdleIn v.station) →
      v.retryLimit = s.retryLimit → (v.station = .parked ∨ v.station.tracksCensus = true) →
      (if v.station = .parked then v else v.finishMember s own obs).OutboundKept := fun v kept idle same_limit member => by
    split
    · exact kept
    · rename_i away
      exact State.outboundKept_finishMember kept.sound (member.resolve_left away) idle kept.retries (same_limit ▸ limit)
        kept.silent s
  have ended : ∀ v : State, v.OutboundKept → (v.raiseForeignFor (s.foreignJoin obs.cells) obs.cells.sender).OutboundKept :=
    fun v kept => by
      rw [State.raiseForeignFor_frame]
      exact kept.of_eq rfl rfl rfl (kept.silent.of_line rfl rfl id)
  have counted : (s.countMisses obs.rollCall).OutboundKept := h.of_eq rfl rfl rfl (h.silent.of_line rfl rfl id)
  refine ended _ ?_
  cases taken : obs.taken
  · exact finished _ counted (fun attempt => others (by simpa [taken] using attempt)) rfl (.inr tracks)
  · obtain ⟨kept, idle, member⟩ := State.OutboundKept.applyTaken counted limit tracks others obs.cells obs.standing
    exact finished _ kept (fun _ => idle) (congrArg (fun b : Background => b.config.retry.toNat)
      (State.applyTaken_background own obs.cells obs.standing _)) member

/-! ### The frame end at a JOINING station (R79, R80, R115) -/

/-- R79: the entries of a JOINING station but its JOIN may stand in every state. -/
theorem EntryKind.heldIn_of_joining {k : EntryKind} (joining : k.heldIn .joining = true) (join : k.isJoin = false)
    (y : StationState) : k.heldIn y = true := by
  cases k <;> simp [EntryKind.heldIn, EntryKind.isJoin, StationState.tracksCensus] at joining join ⊢

theorem EntryKind.answers_of_isJoin {a b : EntryKind} (ha : a.isJoin = true) (hb : b.isJoin = true) :
    a.answers b = true := by
  cases a <;> cases b <;> simp [EntryKind.isJoin, EntryKind.answers] at ha hb ⊢

/-- R79, R105, R111: a JOINING station sends no frame but its JOIN, and once that is TAKEN it holds no JOIN entry. -/
theorem State.OutboundKept.takeEntry_joining (h : s.OutboundKept) (joining : s.station = .joining)
    (attempt : s.outbound.onLine.isSome = true) (y : StationState) : s.takeEntry.outbound.IdleIn y := by
  obtain ⟨e, sent⟩ := Option.isSome_iff_exists.mp attempt
  obtain ⟨he, on⟩ := s.outbound.onLine_some e sent
  have join : e.kind.isJoin = true := by
    have allowed := h.sound.sends e he on
    rw [joining] at allowed
    cases kind : e.kind <;> simp [kind, EntryKind.sentIn, StationState.tracksCensus, EntryKind.isJoin] at allowed ⊢
  have taken := State.takeEntry_join sent join
  have idle : s.takeEntry.outbound.IdleIn .joining := joining ▸ h.sound.takeEntry
  refine idle.at_state fun z hz => EntryKind.heldIn_of_joining (idle.held z hz) ?_ y
  rw [taken] at hz
  obtain ⟨stood, rest⟩ := List.mem_filter.mp hz
  by_contra joins
  have apart := h.1.not_answers sent stood (by simpa using rest)
  rw [EntryKind.answers_of_isJoin (by simpa using joins) join] at apart
  contradiction

/-- R55, R80, R84: the own JOIN taken founds a cell with the entries as they were, or begins a run at a SYNCING station. -/
theorem State.ownJoinTaken_outbound (s : State) (rollCall standing : StationSet) :
    ((s.ownJoinTaken rollCall standing).station = .synced ∧
        (s.ownJoinTaken rollCall standing).outbound = s.outbound) ∨
      ((s.ownJoinTaken rollCall standing).station = .syncing ∧
        (s.ownJoinTaken rollCall standing).outbound = (s.learnedCell rollCall standing).resetRun.outbound) := by
  by_cases alone : setInsert s.own rollCall = [s.own]
  · rw [State.ownJoinTaken_alone alone]
    exact .inl ⟨rfl, rfl⟩
  · rw [State.ownJoinTaken_joins alone, State.raiseRoster_outbound, State.raiseRoster_station]
    refine .inr ⟨?_, rfl⟩
    rw [State.learnedCell_frame]

theorem State.ownJoinTaken_keeps (s : State) (rollCall standing : StationSet) :
    (s.ownJoinTaken rollCall standing).config = s.config ∧ (s.ownJoinTaken rollCall standing).line = s.line := by
  by_cases alone : setInsert s.own rollCall = [s.own]
  · rw [State.ownJoinTaken_alone alone]
    exact ⟨rfl, rfl⟩
  · rw [State.ownJoinTaken_joins alone, State.raiseRoster_config, State.raiseRoster_line, State.learnedCell_frame]
    exact ⟨rfl, rfl⟩

/-- R55: the own JOIN taken requests a CENSUS entry at most. -/
theorem Outbound.Fails0.ownJoinTaken (s : State) (rollCall standing : StationSet) :
    s.outbound.Fails0 (s.ownJoinTaken rollCall standing).outbound := by
  have learned : (s.learnedCell rollCall standing).outbound = s.outbound := rfl
  obtain ⟨-, same⟩ | ⟨-, same⟩ := s.ownJoinTaken_outbound rollCall standing <;> rw [same]
  · exact .refl _
  · exact learned ▸ Outbound.Fails0.resetRun (s.learnedCell rollCall standing)

theorem Outbound.SoundIn.ownJoinTaken (h : ∀ y, s.outbound.SoundIn y sent) (rollCall standing : StationSet) :
    (s.ownJoinTaken rollCall standing).outbound.SoundIn (s.ownJoinTaken rollCall standing).station sent := by
  have learned : (s.learnedCell rollCall standing).outbound = s.outbound := rfl
  obtain ⟨station, same⟩ | ⟨station, same⟩ := s.ownJoinTaken_outbound rollCall standing <;> rw [station, same]
  · exact h .synced
  · refine Outbound.SoundIn.resetRun ?_ rfl
    rw [learned]
    exact h .syncing

/-- R110, R112 to R116: the end of the attempt on the line, and what its exhaustion comes to. -/
theorem State.OutboundKept.attemptFailed (h : s.OutboundKept) (limit : s.station ≠ .config → 0 < s.retryLimit)
    {counted : Bool} (station : t.station = s.station) (config : t.config = s.config)
    (outbound : t.outbound = (s.endAttempt counted).outbound) (silent : t.SilentWhere) :
    t.actOnExhaustion.OutboundKept := by
  have same_limit : t.retryLimit = s.retryLimit := by rw [State.retryLimit, State.retryLimit, config]
  refine State.outboundKept_actOnExhaustion ?_ ?_ (fun c => ?_) (fun left => ?_) silent
  · rw [outbound, station]
    exact h.sound.endAttempt counted
  · rw [outbound, same_limit]
    exact h.sound.endAttempt_exhaustsOne h.retries counted
  · rw [outbound]
    refine List.eq_nil_iff_forall_not_mem.mpr fun e he => ?_
    obtain ⟨y, hy, -⟩ := State.mem_endAttempt he
    rw [h.unconfigured (station.symm.trans c)] at hy
    contradiction
  · rw [same_limit]
    exact limit (station ▸ left)

/-- R47, R79: the frame end at a JOINING station. -/
theorem State.OutboundKept.joiningFrameEnd (h : s.OutboundKept) (limit : 0 < s.retryLimit) (joining : s.station = .joining)
    {own : Bool} (attempt : own = true → s.outbound.onLine.isSome = true) (obs : FrameObs) :
    (s.joiningFrameEnd own obs).OutboundKept := by
  unfold State.joiningFrameEnd
  split
  · rename_i mine
    split
    · have idle : (s.takeEntry.ownJoinTaken obs.rollCall obs.standing).outbound.IdleIn _ :=
        Outbound.SoundIn.ownJoinTaken (h.takeEntry_joining joining (attempt mine)) obs.rollCall obs.standing
      have member : (s.takeEntry.ownJoinTaken obs.rollCall obs.standing).station.tracksCensus = true := by
        obtain ⟨station, -⟩ | ⟨station, -⟩ := s.takeEntry.ownJoinTaken_outbound obs.rollCall obs.standing <;> rw [station] <;>
          rfl
      obtain ⟨config, line⟩ := s.takeEntry.ownJoinTaken_keeps obs.rollCall obs.standing
      rw [(State.SameCell.takeEntry s).config] at config
      rw [show s.takeEntry.line = s.line by rw [State.takeEntry_frame]] at line
      refine Outbound.SoundIn.kept (idle.sound _) (fun e he => ?_)
        (fun c => absurd c (StationState.left_of_tracksCensus member)) ?_
      · have same_limit : (s.takeEntry.ownJoinTaken obs.rollCall obs.standing).retryLimit = s.retryLimit :=
          congrArg (fun c : ConfigSet => c.retry.toNat) config
        rw [same_limit]
        exact ((Outbound.Fails0.takeEntry s).trans (.ownJoinTaken _ _ _) e he).elim (h.retries e) fun zero => zero ▸ limit
      · exact h.silent.of_line (congrArg LineUnit.ltx line) (congrArg LineUnit.condition line) fun _ =>
          StationState.mayDrive_of_tracksCensus member
    · have same := State.SameCell.endAttempt s true
      obtain ⟨line, -⟩ := State.endAttempt_sameLine true s
      exact h.attemptFailed (fun _ => limit) same.station same.config rfl
        (h.silent.of_line (congrArg LineUnit.ltx line) (congrArg LineUnit.condition line) fun may => same.station ▸ may)
  · exact h

/-! ### The frame end (R47, R60, R61, R128) -/

/-- R110, R128: an attempt that ends uncounted. -/
theorem State.OutboundKept.endUncounted (h : s.OutboundKept) : (s.endAttempt false).OutboundKept := by
  have same := State.SameCell.endAttempt s false
  obtain ⟨line, -⟩ := State.endAttempt_sameLine false s
  have retries : ∀ e ∈ (s.endAttempt false).outbound.entries, e.retries < s.retryLimit := fun e he => by
    obtain ⟨y, hy, -, upper, -⟩ := State.mem_endAttempt he
    exact lt_of_le_of_lt (by simpa using upper) (h.retries y hy)
  refine Outbound.SoundIn.kept ?_ (fun e he => ?_) (fun c => ?_) ?_
  · rw [same.station]
    exact (h.sound.endAttempt false).sound _
  · rw [State.retryLimit, same.config]
    exact retries e he
  · refine List.eq_nil_iff_forall_not_mem.mpr fun e he => ?_
    obtain ⟨y, hy, -⟩ := State.mem_endAttempt he
    rw [h.unconfigured (same.station ▸ c)] at hy
    contradiction
  · exact h.silent.of_line (congrArg LineUnit.ltx line) (congrArg LineUnit.condition line) fun may => same.station ▸ may

theorem State.OutboundKept.clashFound (h : s.OutboundKept) (c : FrameCells) : (s.clashFound c).OutboundKept := by
  obtain ⟨-, same⟩ | ⟨-, same⟩ := s.clashFound_cases c <;> rw [same]
  · exact h
  · exact State.outboundKept_halt (h.sound.endAttempt false) (fun e he _ => h.endUncounted.retries e he) _

theorem State.OutboundKept.settledFrame (h : s.OutboundKept) (c : FrameCells) : (s.settledFrame c).OutboundKept := by
  have closed : ∀ u : State, u.OutboundKept → u.closeFrame.OutboundKept := fun u kept =>
    kept.of_eq rfl rfl rfl (kept.silent.of_line rfl rfl id)
  refine closed _ ?_
  obtain ⟨-, same⟩ | ⟨-, same⟩ := (s.clashFound c).loseUnlessOwn_cases c <;> rw [same]
  · exact h.clashFound c
  · exact (h.clashFound c).endUncounted

/-- R47, R128: a frame that is not the own attempt finds no attempt on the line at its end. -/
theorem State.onLine_of_settled (c : FrameCells) (s : State) :
    (s.loseUnlessOwn c).ownAttempt c = true ∨ (s.loseUnlessOwn c).outbound.onLine = none := by
  obtain ⟨own, same⟩ | ⟨-, same⟩ := s.loseUnlessOwn_cases c <;> rw [same]
  · exact .inl own
  · exact .inr (State.endAttempt_onLine false s)

theorem State.settledFrame_background (c : FrameCells) (s : State) : (s.settledFrame c).background = s.background := by
  unfold State.settledFrame
  obtain ⟨-, same⟩ | ⟨-, same⟩ := (s.clashFound c).loseUnlessOwn_cases c <;> rw [same]
  · rw [State.closeFrame_background, State.clashFound_background]
  · rw [State.closeFrame_background, State.endAttempt_background, State.clashFound_background]

/-- R177: a station that may still drive once the clash is looked for has not halted on one. -/
theorem State.mayDrive_of_settledFrame {c : FrameCells} (drives : (s.settledFrame c).station.mayDrive = true) :
    s.station.mayDrive = true := by
  obtain ⟨-, -, station⟩ := s.settledFrame_line c
  rw [station] at drives
  obtain ⟨-, same⟩ | ⟨-, same⟩ := s.clashFound_cases c <;> rw [same] at drives
  · exact drives
  · contradiction

/-- R47: what a frame end leaves of outbound set and line. -/
theorem State.OutboundKept.frameEnd (h : s.OutboundKept) (config : s.ConfigFits) (obs : FrameObs) :
    (s.frameEnd obs).OutboundKept := by
  by_cases frame : s.line.tracking = .frame
  case neg =>
    rw [State.frameEnd, if_neg frame]
    exact h
  rw [State.frameEnd_eq frame]
  have kept := h.settledFrame obs.cells
  have limit : (s.settledFrame obs.cells).station.mayDrive = true → 0 < (s.settledFrame obs.cells).retryLimit :=
    fun drives => by
      obtain ⟨-, -, -, -, bound⟩ :=
        config.bounds (StationState.mayDrive_ne_config (State.mayDrive_of_settledFrame drives))
      have same : (s.settledFrame obs.cells).retryLimit = s.retryLimit :=
        congrArg (fun b : Background => b.config.retry.toNat) (State.settledFrame_background obs.cells s)
      omega
  have settled := State.onLine_of_settled obs.cells (s.clashFound obs.cells)
  set own := ((s.clashFound obs.cells).loseUnlessOwn obs.cells).ownAttempt obs.cells with own_eq
  cases tracks : (s.settledFrame obs.cells).station.tracksCensus
  · by_cases joining : (s.settledFrame obs.cells).station = .joining
    · rw [State.handOn_joining _ _ joining]
      refine kept.joiningFrameEnd (limit (joining ▸ rfl)) joining (fun mine => ?_) obs
      exact State.onLine_of_ownAttempt (s := (s.clashFound obs.cells).loseUnlessOwn obs.cells) mine
    · rwa [State.handOn_other _ _ tracks joining]
  · rw [State.handOn_member _ _ tracks]
    refine kept.memberFrameEnd (limit (StationState.mayDrive_of_tracksCensus tracks)) tracks (fun other => ?_) obs
    refine kept.sound.idle ((Outbound.onLine_eq_none _).mp (settled.resolve_left fun mine => ?_))
    exact Bool.false_ne_true (other.symm.trans mine)

end

end Sys2Proof.Machine
end

section
/-! SUPPORT. The outbound set and the line through the deadlines, the events of the line and the samples (R64, R68, R73, R74,
R94, R117, R121 to R131). -/

namespace Sys2Proof.Machine

set_option Elab.async false

/-! ### What a step starts from -/

/-- The invariants of the cell with those of the outbound set and the line. -/
structure State.OutboundInv (s : State) : Prop extends s.CellInv where
  kept : s.OutboundKept

theorem State.Inv.outboundInv {s : State} (h : s.Inv) : s.OutboundInv := by
  have cell := h.cellInv
  obtain ⟨-, -, -, -, fits, -, -, silent, places, -⟩ := h
  exact { cell with kept := ⟨fits, places, silent⟩ }

section
variable {s t : State} {x : StationState} {sent : EntryKind → Bool}

/-- R114: outside CONFIG the retry limit is no less than 3. -/
theorem State.OutboundInv.limit (h : s.OutboundInv) (left : s.station ≠ .config) : 0 < s.retryLimit := by
  obtain ⟨-, -, -, -, bound⟩ := h.config.bounds left
  omega

/-- An operation that leaves the cell as it stands, with the conditions of the outbound set and the line kept. -/
theorem State.OutboundInv.minor (h : s.OutboundInv) (same : s.Minor t)
    (sound : t.outbound.SoundIn s.station fun k => k.sentIn s.station) (silent : t.SilentWhere) : t.OutboundInv :=
  have cell := h.toCellInv.minor same
  { cell with
    kept := by
      rw [← same.station] at sound
      exact sound.kept cell.retries cell.idle silent }

/-- An operation that leaves the cell and the entries as they stand. -/
theorem State.OutboundInv.same (h : s.OutboundInv) (same : s.Minor t) (entries : t.outbound.entries = s.outbound.entries)
    (silent : t.SilentWhere) : t.OutboundInv :=
  h.minor same (h.kept.sound.of_sublist (entries ▸ List.Sublist.refl _)) silent

/-- An operation that leaves the cell, the entries and the line as they stand. -/
theorem State.OutboundInv.same_line (h : s.OutboundInv) (same : s.Minor t)
    (entries : t.outbound.entries = s.outbound.entries) (ltx : t.line.ltx = s.line.ltx)
    (condition : t.line.condition = s.line.condition) : t.OutboundInv :=
  h.same same entries (h.kept.silent.of_line ltx condition fun may => same.station ▸ may)

/-- R104: a request that the station state allows, and a change of the slots or the time base besides. -/
theorem State.OutboundInv.requested (h : s.OutboundInv) {k : EntryKind} (allowed : k.heldIn s.station = true)
    (left : s.station ≠ .config) (station : t.station = s.station) (config : t.config = s.config)
    (outbound : t.outbound = s.outbound.request k) (line : t.line = s.line) : t.OutboundKept := by
  refine Outbound.SoundIn.kept ?_ (fun e he => ?_) (fun c => absurd (station.symm.trans c) left) ?_
  · rw [station, outbound]
    exact h.kept.sound.request allowed
  · rw [State.retryLimit, config]
    rw [outbound] at he
    exact (Outbound.Fails0.request s.outbound k e he).elim (h.retries e) fun zero => zero ▸ h.limit left
  · exact h.kept.silent.of_line (congrArg LineUnit.ltx line) (congrArg LineUnit.condition line) fun may => station ▸ may

/-! ### The deadlines (R64, R68, R73, R74, R94) -/

/-- R68: an EXPIRE entry is requested in SYNCED. -/
theorem Outbound.SoundIn.leaseReached (h : s.outbound.SoundIn s.station sent) (k : Nat) :
    (s.leaseReached k).outbound.SoundIn (s.leaseReached k).station sent := by
  unfold State.leaseReached
  split
  · dsimp only
    split
    · rename_i open_
      exact h.request (by rw [open_.1]; rfl)
    · exact h
  · exact h

/-- R73: a PULSE entry is requested in SYNCED. -/
theorem Outbound.SoundIn.pulseReached (h : s.outbound.SoundIn s.station sent) :
    s.pulseReached.outbound.SoundIn s.pulseReached.station sent := by
  unfold State.pulseReached
  split
  · dsimp only
    split
    · rename_i synced
      exact h.request (by rw [synced]; rfl)
    · exact h
  · exact h

/-- R94: a JOIN entry with PASS is requested in SYNCING. -/
theorem Outbound.SoundIn.windowReached (h : s.outbound.SoundIn s.station sent) :
    s.windowReached.outbound.SoundIn s.windowReached.station sent := by
  unfold State.windowReached
  split
  · dsimp only
    split
    · rename_i syncing
      exact h.request (by rw [syncing]; rfl)
    · exact h
  · exact h

/-- R74: a fence requests DROP entries, which every station state allows. -/
theorem Outbound.SoundIn.fenceTags (l : List Nat) (h : s.outbound.SoundIn s.station sent) :
    (l.foldl State.fenceTag s).outbound.SoundIn (l.foldl State.fenceTag s).station sent := by
  induction l generalizing s with
  | nil => exact h
  | cons k l ih =>
    refine ih ?_
    obtain ⟨-, same⟩ | ⟨-, same⟩ := s.fenceTag_cases k <;> rw [same]
    · exact Outbound.SoundIn.request (o := s.outbound) h rfl
    · exact h

theorem Outbound.SoundIn.guardReached (h : s.outbound.SoundIn s.station sent) :
    s.guardReached.outbound.SoundIn s.guardReached.station sent := by
  unfold State.guardReached
  split
  · exact Outbound.SoundIn.fenceTags (s := { s with lease := { s.lease with selfGuard := .reached } }) _ h
  · exact h

theorem Outbound.SoundIn.leasesReached (l : List Lease) (h : s.outbound.SoundIn s.station sent) :
    (l.foldl (fun u x => u.leaseReached x.peer) s).outbound.SoundIn
      (l.foldl (fun u x => u.leaseReached x.peer) s).station sent := by
  induction l generalizing s with
  | nil => exact h
  | cons x l ih => exact ih (Outbound.SoundIn.leaseReached h x.peer)

/-- R64: the deadlines that a tick boundary brings, one after another. -/
theorem Outbound.SoundIn.tick (h : s.outbound.SoundIn s.station sent) :
    s.tick.outbound.SoundIn s.tick.station sent := by
  have if_due : ∀ (b : Bool) (f : State → State) (u : State), u.outbound.SoundIn u.station sent →
      (f u).outbound.SoundIn (f u).station sent →
      (if b then f u else u).outbound.SoundIn (if b then f u else u).station sent := fun b f u not_due due => by
    cases b
    · exact not_due
    · exact due
  have leases : s.leasesTicked.outbound.SoundIn s.leasesTicked.station sent :=
    Outbound.SoundIn.leasesReached (s := { s with lease := s.lease.tick }) _ h
  have pulse := if_due s.leasesTicked.lease.pulse.due _ _ leases leases.pulseReached
  have guard := if_due s.leasesTicked.pulseTicked.lease.selfGuard.due _ _ pulse pulse.guardReached
  exact if_due s.leasesTicked.pulseTicked.guardTicked.lease.window.due _ _ guard guard.windowReached

/-- An operation that requests entries and leaves the cell and the line as they stand. -/
theorem State.OutboundInv.requests (h : s.OutboundInv) (same : s.Minor t)
    (sound : t.outbound.SoundIn t.station fun k => k.sentIn s.station) (line : t.line = s.line) : t.OutboundInv := by
  refine h.minor same ?_
    (h.kept.silent.of_line (congrArg LineUnit.ltx line) (congrArg LineUnit.condition line) fun may => same.station ▸ may)
  rwa [same.station] at sound

theorem State.OutboundInv.leaseReached (h : s.OutboundInv) (k : Nat) : (s.leaseReached k).OutboundInv :=
  h.requests (.leaseReached s k) (h.kept.sound.leaseReached k) (by rw [State.leaseReached_frame])

theorem State.OutboundInv.pulseReached (h : s.OutboundInv) : s.pulseReached.OutboundInv :=
  h.requests (.pulseReached s) h.kept.sound.pulseReached (by rw [State.pulseReached_frame])

theorem State.OutboundInv.windowReached (h : s.OutboundInv) : s.windowReached.OutboundInv :=
  h.requests (.windowReached s) h.kept.sound.windowReached (by rw [State.windowReached_frame])

theorem State.OutboundInv.guardReached (h : s.OutboundInv) : s.guardReached.OutboundInv :=
  h.requests (.guardReached s) h.kept.sound.guardReached (by rw [State.guardReached_frame])

theorem State.OutboundInv.tick (h : s.OutboundInv) : s.tick.OutboundInv :=
  h.requests (.tick s) h.kept.sound.tick (by rw [State.tick_frame])

theorem State.OutboundInv.tickCycle (h : s.OutboundInv) : s.tickCycle.OutboundInv := by
  unfold State.tickCycle
  split
  · exact h.same_line (.of_eq rfl rfl rfl rfl rfl rfl) rfl rfl rfl
  · have counted : ({ s with lease := { s.lease with divider := 0 } } : State).OutboundInv :=
      h.same_line (.of_eq rfl rfl rfl rfl rfl rfl) rfl rfl rfl
    exact counted.tick

/-! ### The events of the line (R78, R117, R122 to R131) -/

theorem State.OutboundInv.quietComesTo (h : s.OutboundInv) (n : Nat) : (s.quietComesTo n).OutboundInv :=
  h.same_line (.quietComesTo s n) rfl rfl rfl

theorem State.OutboundInv.stopDriving (h : s.OutboundInv) : s.stopDriving.OutboundInv :=
  h.same (.of_eq rfl rfl rfl rfl rfl rfl) rfl (State.silentWhere_of_rest rfl)

theorem State.OutboundInv.afterLastPhase (h : s.OutboundInv) : s.afterLastPhase.OutboundInv := by
  obtain ⟨-, same⟩ | ⟨-, same⟩ := s.afterLastPhase_cases <;> rw [same]
  · exact h
  · exact h.same (.of_eq rfl rfl rfl rfl rfl rfl) rfl (State.silentWhere_of_rest rfl)

/-- R106, R168: LTX is driven only where an entry is eligible, at a station that may drive a NORMAL line. -/
theorem State.SilentWhere.ask (h : s.SilentWhere) : s.ask.SilentWhere := by
  obtain ⟨-, same⟩ | ⟨e, chosen, same⟩ := s.ask_cases <;> rw [same]
  · exact h
  · obtain ⟨_, _, -, eligible, -⟩ := State.chosen_eq_some chosen
    simp only [State.eligible, State.mayOffer, Bool.and_eq_true, beq_iff_eq] at eligible
    obtain ⟨⟨⟨⟨⟨drives, normal⟩, -⟩, -⟩, -⟩, -⟩ := eligible
    rintro (silent | stuck)
    · exact absurd (silent.symm.trans drives) Bool.false_ne_true
    · have stuck : s.line.condition = .stuck := stuck
      rw [normal] at stuck
      contradiction

theorem State.OutboundInv.askIfSettled (h : s.OutboundInv) : s.askIfSettled.OutboundInv := by
  unfold State.askIfSettled
  split
  · exact h.minor (.ask s) h.kept.sound.ask h.kept.silent.ask
  · exact h

theorem State.OutboundInv.frameStart (h : s.OutboundInv) (n : Nat) : (s.frameStart n).OutboundInv := by
  unfold State.frameStart
  split
  · exact (h.quietComesTo n).askIfSettled
  · exact h

theorem State.OutboundInv.openFrame (h : s.OutboundInv) : s.openFrame.OutboundInv :=
  h.same_line (.of_eq rfl rfl rfl rfl rfl rfl) rfl rfl rfl

theorem State.OutboundInv.resync (h : s.OutboundInv) : s.resync.OutboundInv :=
  h.same_line (.of_eq rfl rfl rfl rfl rfl rfl) rfl rfl rfl

theorem State.OutboundInv.keyMark (h : s.OutboundInv) (n : Nat) : (s.keyMark n).OutboundInv := by
  unfold State.keyMark
  split
  · exact (h.resync.quietComesTo n).askIfSettled.openFrame
  · exact h

theorem State.OutboundInv.endUncounted (h : s.OutboundInv) : (s.endAttempt false).OutboundInv :=
  { h.toCellInv.minor (.endUncounted s) with kept := h.kept.endUncounted }

theorem State.OutboundInv.arbitrationLoss (h : s.OutboundInv) : s.arbitrationLoss.OutboundInv := by
  unfold State.arbitrationLoss
  split
  · exact h.endUncounted.stopDriving
  · exact h

theorem State.OutboundInv.bitError (h : s.OutboundInv) : s.bitError.OutboundKept := by
  unfold State.bitError
  split
  · have same := State.SameCell.endAttempt s true
    exact h.kept.attemptFailed (fun left => h.limit left) same.station same.config rfl (State.silentWhere_of_rest rfl)
  · exact h.kept

theorem State.OutboundInv.brokenOff (h : s.OutboundInv) (cause : BreakCause) : (s.brokenOff cause).OutboundKept := by
  unfold State.brokenOff
  split
  · have same := State.SameCell.endAttempt s cause.counted
    exact h.kept.attemptFailed (fun left => h.limit left) same.station same.config rfl (State.silentWhere_of_rest rfl)
  · exact h.kept

theorem State.OutboundKept.identityClash (h : s.OutboundKept) (c : FrameCells) : (s.identityClash c).OutboundKept := by
  unfold State.identityClash
  split
  · exact h.clashFound c
  · exact h

theorem State.OutboundInv.becomeStuck (h : s.OutboundInv) : s.becomeStuck.OutboundInv := by
  unfold State.becomeStuck
  split
  · exact h.endUncounted.same (.of_eq rfl rfl rfl rfl rfl rfl) rfl (State.silentWhere_of_rest rfl)
  · exact h

/-- R131: a line that is NORMAL again stays released at a station that may not drive. -/
theorem State.OutboundInv.becomeNormal (h : s.OutboundInv) : s.becomeNormal.OutboundInv := by
  unfold State.becomeNormal
  split
  · refine h.same (.of_eq rfl rfl rfl rfl rfl rfl) rfl fun must => h.kept.silent (.inl (must.resolve_right ?_))
    simp
  · exact h

/-- R119: the entries of a LISTEN station may stand in every state. -/
theorem EntryKind.heldIn_of_listen {k : EntryKind} (listen : k.heldIn .listen = true) (y : StationState) :
    k.heldIn y = true := by
  cases k <;> simp [EntryKind.heldIn, StationState.tracksCensus] at listen ⊢

theorem EntryKind.sentIn_listen (k : EntryKind) : k.sentIn .listen = false := by
  cases k <;> rfl

/-- R78: a LISTEN station has nothing on the line, and its JOIN entry is held in JOINING. -/
theorem State.OutboundInv.becomeAware (h : s.OutboundInv) : s.becomeAware.OutboundKept := by
  unfold State.becomeAware
  split
  · dsimp only
    split
    · rename_i listen
      have limit := h.limit (by simp [listen])
      have sound := h.kept.sound
      rw [listen] at sound
      have idle : s.outbound.IdleIn .listen :=
        { sound with sends := fun e he on => (EntryKind.sentIn_listen e.kind).symm.trans (sound.sends e he on) }
      have joining : s.outbound.IdleIn .joining :=
        idle.at_state fun e he => EntryKind.heldIn_of_listen (idle.held e he) _
      have aware : ({ s.outbound with spent := false } : Outbound).IdleIn .joining := joining.of_sublist (.refl _)
      refine Outbound.SoundIn.kept ?_ (fun e he => ?_) (fun c => ?_) (State.silentWhere_of_rest ?_)
      · have requested : (({ s.outbound with spent := false } : Outbound).request (.join false)).IdleIn .joining :=
          aware.request rfl
        exact requested.sound _
      · exact (Outbound.Fails0.request { s.outbound with spent := false } (.join false) e he).elim (h.retries e)
          fun zero => zero ▸ limit
      · contradiction
      · exact h.kept.silent (.inl (by rw [listen]; rfl))
    · exact h.kept.of_eq rfl rfl rfl (h.kept.silent.of_line rfl rfl id)
  · exact h.kept

theorem State.OutboundInv.roundGap (h : s.OutboundInv) : s.roundGap.OutboundInv := by
  unfold State.roundGap
  split
  · exact h.quietComesTo _
  · exact h

/-! ### A bit read (R34, R124 to R131) -/

theorem State.OutboundInv.setRx (h : s.OutboundInv) (y : Rx) : (s.setRx y).OutboundInv :=
  h.same_line (.of_eq rfl rfl rfl rfl rfl rfl) rfl rfl rfl

theorem State.OutboundInv.markError (h : s.OutboundInv) : s.markError.OutboundInv :=
  h.same_line (.of_eq rfl rfl rfl rfl rfl rfl) rfl rfl rfl

theorem State.OutboundKept.endOfCells (h : s.OutboundKept) (y : Rx) : (s.endOfCells y).OutboundKept := by
  unfold State.endOfCells
  split
  · have found := h.clashFound y.cells
    exact found.of_eq rfl rfl rfl (found.silent.of_line rfl rfl id)
  · exact h

theorem State.OutboundInv.cellBit (h : s.OutboundInv) (b : Level) (y : Rx) : (s.cellBit b y).OutboundKept := by
  have marked : ∀ z, (if b = .drive then (s.setRx z).markError else s.setRx z).OutboundInv := fun z => by
    split
    · exact (h.setRx z).markError
    · exact h.setRx z
  have judged : ∀ u : State, u.OutboundInv → (if s.conflict y b then u.bitError else u).OutboundKept := fun u hu => by
    split
    · exact hu.bitError
    · exact hu.kept
  unfold State.cellBit
  dsimp only
  split
  · split
    · exact h.brokenOff _
    · exact (h.setRx _).kept
  split
  · split
    · split
      · exact (h.setRx _).arbitrationLoss.kept
      · exact (h.setRx _).bitError
    · exact (h.setRx _).kept
  split
  · exact h.brokenOff _
  split
  · exact h.brokenOff _
  split
  · exact h.brokenOff _
  split
  · exact (judged _ (marked _)).endOfCells _
  · exact judged _ (marked _)

theorem State.OutboundInv.phaseBit (h : s.OutboundInv) (b : Level) (y : Rx) : (s.phaseBit b y).OutboundKept := by
  have ended : ∀ u : State, u.OutboundInv → ∀ obs, (u.frameEnd obs).OutboundKept := fun u hu obs =>
    hu.kept.frameEnd hu.config obs
  have decided : ∀ z, ((s.setRx z).decideVoid z).OutboundInv ∧ ((s.setRx z).decideOutcome z).OutboundInv := fun z =>
    ⟨(h.setRx z).same_line (.of_eq rfl rfl rfl rfl rfl rfl) rfl rfl rfl,
      (h.setRx z).same_line (.of_eq rfl rfl rfl rfl rfl rfl) rfl rfl rfl⟩
  unfold State.phaseBit
  dsimp only
  split
  · exact (h.setRx _).kept
  split
  · split
    · exact (decided _).1.kept
    · exact (h.setRx _).kept
  split
  · exact (h.setRx _).kept
  split
  · split
    · exact (decided _).2.kept
    · exact ended _ (decided _).2 _
  split
  · exact (h.setRx _).kept
  split
  · exact ended _ (h.setRx _) _
  · exact (h.setRx _).kept

theorem State.OutboundInv.frameBit (h : s.OutboundInv) (b : Level) : (s.frameBit b).OutboundKept := by
  unfold State.frameBit
  split
  · exact h.kept
  · split
    · exact h.cellBit b _
    · exact h.phaseBit b _

theorem State.OutboundInv.trackedBit (h : s.OutboundInv) (b : Level) : (s.trackedBit b).OutboundKept := by
  unfold State.trackedBit
  split
  · exact h.kept
  · unfold State.recoverBit
    split
    · exact (h.same_line (.of_eq rfl rfl rfl rfl rfl rfl) rfl rfl rfl).kept
    · split
      · exact (h.same_line (.of_eq rfl rfl rfl rfl rfl rfl) rfl rfl rfl).kept
      · exact h.becomeAware
  · unfold State.quietBit
    split
    · exact (h.quietComesTo _).kept
    · exact h.kept
  · exact h.frameBit b
  · exact h.kept

theorem State.OutboundInv.readBit (h : s.OutboundInv) : s.readBit.OutboundKept := by
  have counted : (s.countDrive s.line.accepted).OutboundInv :=
    h.same_line (.of_eq rfl rfl rfl rfl rfl rfl) rfl rfl rfl
  unfold State.readBit
  dsimp only
  split
  · unfold State.stuckBit
    split
    · exact (counted.same_line (.of_eq rfl rfl rfl rfl rfl rfl) rfl rfl rfl).kept
    · split
      · exact (counted.same_line (.of_eq rfl rfl rfl rfl rfl rfl) rfl rfl rfl).kept
      · exact counted.becomeNormal.kept
  · split
    · exact counted.becomeStuck.kept
    · exact counted.trackedBit _

/-! ### A sample, and a CLKIN cycle (R121, R122, R168) -/

/-- R168: a station that may not drive, or whose line is STUCK, drives no bit of a frame. -/
theorem State.driveLevel_of_silent (y : Rx) (silent : s.station.mayDrive = false ∨ s.line.condition = .stuck) :
    s.driveLevel y = .rest := by
  refine if_pos ?_
  rcases silent with may_not | stuck
  · rw [may_not]
    rfl
  · rw [stuck]
    exact Bool.and_false _

theorem State.OutboundInv.openBit (h : s.OutboundInv) : s.openBit.OutboundInv := by
  unfold State.openBit
  split
  · exact h.stopDriving
  · exact h.stopDriving
  · split
    · exact h.stopDriving
    · exact h.same (.of_eq rfl rfl rfl rfl rfl rfl) rfl (State.driveLevel_of_silent _)
  · exact h.afterLastPhase
  · split
    · exact h
    · exact h.stopDriving.frameStart _

theorem State.OutboundInv.filterSample (h : s.OutboundInv) (b : Level) : (s.filterSample b).OutboundInv := by
  have moved : ∀ l : LineUnit, l.ltx = s.line.ltx → l.condition = s.line.condition → ({ s with line := l } : State).OutboundInv :=
    fun _ ltx condition => h.same_line (.of_eq rfl rfl rfl rfl rfl rfl) rfl ltx condition
  unfold State.filterSample
  split
  · exact moved _ rfl rfl
  · split
    · exact moved _ rfl rfl
    · split
      · exact h.resync.keyMark _
      · exact moved _ rfl rfl

theorem State.OutboundKept.closePhase (h : s.OutboundKept) : s.closePhase.OutboundKept := by
  unfold State.closePhase
  split
  · exact h.of_eq rfl rfl rfl (h.silent.of_line rfl rfl id)
  · exact h

theorem State.OutboundInv.sample (h : s.OutboundInv) : s.sample.OutboundKept := by
  unfold State.sample
  extract_lets line moved opened filtered read
  have moved_inv : moved.OutboundInv := h.same_line (.of_eq rfl rfl rfl rfl rfl rfl) rfl rfl rfl
  have opened_inv : opened.OutboundInv := by
    unfold opened
    split
    · exact moved_inv.openBit
    · exact moved_inv
  have filtered_inv : filtered.OutboundInv := opened_inv.filterSample _
  have read_kept : read.OutboundKept := by
    unfold read
    split
    · exact filtered_inv.readBit
    · exact filtered_inv.kept
  split
  · exact read_kept.closePhase
  · exact read_kept

theorem State.OutboundInv.sampleCycle (h : s.OutboundInv) : s.sampleCycle.OutboundKept := by
  have divided : ∀ n, ({ s with line := { s.line with divider := n } } : State).OutboundInv := fun _ =>
    h.same_line (.of_eq rfl rfl rfl rfl rfl rfl) rfl rfl rfl
  unfold State.sampleCycle
  split
  · split
    · exact (divided _).kept
    · refine State.OutboundInv.sample ?_
      exact divided 0
  · exact h.kept

theorem State.OutboundInv.clock (h : s.OutboundInv) : s.clock.OutboundKept := by
  unfold State.clock
  split
  · exact h.kept
  · exact h.tickCycle.sampleCycle

end

end Sys2Proof.Machine
end

section
/-! SUPPORT. The outbound set and the line through the host commands, the reset and a whole step (R99, R137, R140, R146, R172,
R175, R179), and O58. -/

namespace Sys2Proof.Machine

set_option Elab.async false

/-! ### The host commands -/

section
variable {s t : State}

/-- The line stands besides. -/
theorem State.OutboundKept.congr (h : s.OutboundKept) (station : t.station = s.station) (config : t.config = s.config)
    (entries : t.outbound.entries = s.outbound.entries) (line : t.line = s.line) : t.OutboundKept :=
  h.of_eq station config entries
    (h.silent.of_line (congrArg LineUnit.ltx line) (congrArg LineUnit.condition line) fun may => station ▸ may)

/-- R180: no entry, and the line released. -/
theorem State.outboundKept_of_none (empty : t.outbound.entries = []) (silent : t.SilentWhere) : t.OutboundKept := by
  refine ⟨⟨?_, ?_, ?_, ?_, fun _ => empty⟩, ?_, silent⟩
  · simp [empty]
  · simp [empty]
  · simp [empty]
  · simp [empty]
  · simp [State.EntriesWhere, empty]

theorem State.OutboundKept.respond (h : s.OutboundKept) (a : Answer) (data : List Byte) :
    (s.respond a data).OutboundKept :=
  h.congr rfl rfl rfl rfl

theorem State.OutboundKept.updateSlot (h : s.OutboundKept) (k : Nat) (f : Slot → Slot) : (s.updateSlot k f).OutboundKept :=
  h.congr rfl rfl rfl rfl

theorem State.OutboundKept.hostTake (h : s.OutboundKept) {act : State → State} (acted : (act s).OutboundKept) :
    (s.hostTake act).OutboundKept := by
  obtain ⟨-, same⟩ | ⟨-, same⟩ := s.hostTake_cases act <;> rw [same]
  · exact h
  · exact acted

/-- R155: CONFIG holds no entry whose retry count the new limit could cut. -/
theorem State.OutboundKept.configure (h : s.OutboundKept) (c : ConfigSet) : (s.configure c).OutboundKept := by
  unfold State.configure
  split
  · rename_i config
    have written : ({ s with config := c } : State).OutboundKept :=
      State.outboundKept_of_none (h.unconfigured config) h.silent
    exact written.respond _ _
  · exact h.respond _ _

/-- R172: the station starts with no entry and the line released. -/
theorem State.OutboundKept.start (h : s.OutboundKept) : s.start.OutboundKept := by
  unfold State.start
  split
  · rename_i config
    split
    · have begun : s.begin.OutboundKept :=
        State.outboundKept_of_none (h.unconfigured config) (State.silentWhere_of_rest rfl)
      exact begun.respond _ _
    · exact h.respond _ _
  · exact h.respond _ _

theorem State.OutboundInv.submit (h : s.OutboundInv) (k m n z1 z2 z3 z4 : Byte) :
    (s.submit k m n z1 z2 z3 z4).OutboundKept := by
  unfold State.submit
  split
  · exact h.kept.respond _ _
  split
  · exact h.kept.respond _ _
  rename_i open_
  split
  · exact h.kept.respond _ _
  split
  · exact h.kept.respond _ _
  · rename_i mode zones _
    have left : s.station ≠ .config := fun c => open_ (by rw [c]; rfl)
    have accepted : (s.accept k.toNat mode zones).OutboundKept :=
      h.requested (k := .claim k.toNat) rfl left rfl rfl rfl rfl
    exact accepted.respond _ _

/-- R140: the CLAIM of a QUEUED slot is withdrawn, at once or when its frame has left the line. -/
theorem State.OutboundInv.dropQueued (h : s.OutboundInv) (k : Nat) : (s.dropQueued k).OutboundKept := by
  have asked : ({ s with outbound := s.outbound.withdraw (.claim k) } : State).OutboundInv :=
    h.minor (.withdraw s _) (h.kept.sound.withdraw _) (h.kept.silent.of_line rfl rfl id)
  unfold State.dropQueued
  split
  · exact h.kept.respond _ _
  · dsimp only
    split
    · exact (asked.kept.updateSlot _ _).respond _ _
    · exact (asked.kept.updateSlot _ _).respond _ _

/-- R140: the DROP of a slot that is not FREE, which is so outside CONFIG only. -/
theorem State.OutboundInv.releaseSlot (h : s.OutboundInv) {k : Nat} (busy : (s.slotAt k).state ≠ .free) :
    (s.releaseSlot k).OutboundKept :=
  h.requested (k := .drop k) rfl (h.slots.left_config busy) rfl rfl rfl rfl

theorem State.OutboundInv.hostDrop (h : s.OutboundInv) (k : Byte) : (s.hostDrop k).OutboundKept := by
  have released : (s.slotAt k.toNat).state ≠ .free → ((s.releaseSlot k.toNat).respond .ok []).OutboundKept := fun busy =>
    (h.releaseSlot busy).respond _ _
  unfold State.hostDrop
  split
  · exact h.kept.respond _ _
  cases slot : (s.slotAt k.toNat).state
  case queued => exact h.dropQueued _
  case waiting => exact released (by simp [slot])
  case granted => exact released (by simp [slot])
  all_goals exact h.kept.respond _ _

theorem State.OutboundKept.hostClear (h : s.OutboundKept) (k : Byte) : (s.hostClear k).OutboundKept := by
  have freed : ((s.updateSlot k.toNat (Slot.become .free none)).respond .ok []).OutboundKept :=
    (h.updateSlot _ _).respond _ _
  unfold State.hostClear
  split
  · exact h.respond _ _
  cases (s.slotAt k.toNat).state
  case refused => exact freed
  case lost =>
    dsimp only
    split
    · exact h.respond _ _
    · exact freed
  all_goals exact h.respond _ _

theorem State.OutboundKept.readSlot (h : s.OutboundKept) (k : Byte) : (s.readSlot k).OutboundKept := by
  unfold State.readSlot
  split
  · exact h.respond _ _
  · exact (h.updateSlot _ _).respond _ _

theorem State.OutboundKept.readZone (h : s.OutboundKept) (z : Byte) : (s.readZone z).OutboundKept := by
  unfold State.readZone
  split
  · exact h.respond _ _
  · exact h.respond _ _

theorem State.OutboundKept.acknowledge (h : s.OutboundKept) (c : Byte) : (s.acknowledge c).OutboundKept := by
  unfold State.acknowledge
  split
  · exact h.respond _ _
  · split
    · have cleared : ({ s with attention := s.attention.acknowledged c.toNat } : State).OutboundKept := h.congr rfl rfl rfl rfl
      exact cleared.respond _ _
    · exact h.respond _ _

/-- R99: LEAVE is requested in SYNCED. -/
theorem State.OutboundInv.hostLeave (h : s.OutboundInv) : s.hostLeave.OutboundKept := by
  unfold State.hostLeave
  split
  · rename_i synced
    split
    · exact h.kept.respond _ _
    · have asked : (s.request .leave).OutboundKept :=
        h.requested (k := .leave) (by rw [synced]; rfl) (by simp [synced]) rfl rfl rfl rfl
      exact asked.respond _ _
  · exact h.kept.respond _ _

/-- R175, R176: a RESTART gives up the cell and releases the line. -/
theorem State.OutboundInv.hostRestart (h : s.OutboundInv) : s.hostRestart.OutboundKept := by
  unfold State.hostRestart
  split
  · rename_i runs
    have left : s.station ≠ .config := fun c => by simp [c, StationState.restarts] at runs
    have limit : 0 < (s.endAttempt false).retryLimit := by
      rw [State.retryLimit, (State.SameCell.endAttempt s false).config]
      exact h.limit left
    have restarted : s.restartNow.OutboundKept :=
      State.outboundKept_giveUp (h.kept.sound.endAttempt false) (r := .restarted) rfl (by simp [State.restartNow]) limit rfl
    exact restarted.respond _ _
  · exact h.kept.respond _ _

/-- R154, R180: RESETN rises. -/
theorem State.OutboundKept.releaseReset (h : s.OutboundKept) (csnLow : Bool) : (s.releaseReset csnLow).OutboundKept := by
  unfold State.releaseReset
  split
  · exact h.congr rfl rfl rfl rfl
  · exact h

/-! ### A step -/

/-- R153: what a command leaves. -/
theorem State.OutboundInv.exec (h : s.OutboundInv) (i : Instr) (run : exec i s = .next t) : t.OutboundKept := by
  have taken : ∀ {act : State → State}, (act s).OutboundKept → (s.hostTake act).OutboundKept := h.kept.hostTake
  have answered : ∀ {a data}, (s.respond a data).OutboundKept := h.kept.respond _ _
  cases i <;> obtain rfl := Host.Outcome.next.inj run
  case configure => exact taken (h.kept.configure _)
  case start => exact taken h.kept.start
  case submit => exact taken (h.submit _ _ _ _ _ _ _)
  case drop => exact taken (h.hostDrop _)
  case clear => exact taken (h.kept.hostClear _)
  case slot => exact taken (h.kept.readSlot _)
  case zone => exact taken (h.kept.readZone _)
  case roster => exact taken answered
  case attention => exact taken answered
  case acknowledge => exact taken (h.kept.acknowledge _)
  case leave => exact taken h.hostLeave
  case restart => exact taken h.hostRestart
  case ident => exact taken answered
  case unknownCommand => exact taken answered
  case transactionNotTaken => exact taken (h.kept.congr rfl rfl rfl rfl)
  case coldReset => exact State.outboundKept_of_none rfl (State.silentWhere_of_rest rfl)
  case resetnRelease => exact h.kept.releaseReset _
  case frameStart => exact (h.afterLastPhase.frameStart _).kept
  case keyMark => exact (h.afterLastPhase.keyMark _).kept
  case arbitrationLoss => exact h.arbitrationLoss.kept
  case bitError => exact h.bitError
  case frameBrokenOff => exact h.brokenOff _
  case identityClash => exact h.kept.identityClash _
  case frameEnd obs => exact h.kept.frameEnd h.config obs
  case stuck => exact h.becomeStuck.kept
  case lineNormal => exact h.becomeNormal.kept
  case frameAware => exact h.becomeAware
  case roundGap => exact h.afterLastPhase.roundGap.kept
  case peerLeaseReached => exact (h.leaseReached _).kept
  case ownPulseDeadlineReached => exact h.pulseReached.kept
  case fence => exact h.guardReached.kept
  case censusWindowReached => exact h.windowReached.kept

/-- A step is a cycle of CLKIN, or the first command of the queue. -/
theorem State.OutboundInv.step (h : s.OutboundInv) (run : step s = .next t) : t.OutboundKept := by
  unfold Machine.step at run
  split at run
  · obtain rfl := Host.Outcome.next.inj run
    exact h.clock
  · rename_i i rest _
    have taken : ({ s with pending := rest } : State).OutboundInv := h.same_line (.of_eq rfl rfl rfl rfl rfl rfl) rfl rfl rfl
    exact taken.exec i run

end

/-- Settles O58: what the state invariants say of the outbound set and the line is kept by each operation that a step is made
of, by closure of `Outbound.SoundIn` under what the operations do to the entries. -/
theorem outboundInvariantKept : Obligations.OutboundInvariantKept := by
  unfold Obligations.OutboundInvariantKept
  intro s t inv run
  exact inv.outboundInv.step run

end Sys2Proof.Machine
end

section
/-! Start moments (R107, R108, R127). -/

namespace Sys2Proof.Machine

set_option Elab.async false

/-- R127: with quiet time 12 or more a frame is asked for. -/
theorem State.askIfSettled_of_le {s : State} (settled : 12 ≤ s.line.quiet) : s.askIfSettled = s.ask :=
  if_pos settled

/-- R117, R125: quiet time that comes to a count from the one held up to 40. -/
theorem State.quietComesTo_eq {s : State} {q : Nat} (held : s.line.quiet ≤ q) (bound : q ≤ 40) :
    s.quietComesTo q = { s with
      line := { s.line with quiet := q }, outbound := { s.outbound with spent := s.outbound.spent && decide (q < 40) } } := by
  have count := State.quietComesTo_quiet held bound
  simp only [State.quietComesTo] at count ⊢
  rw [count]

/-- R127: outside the last frame phase FRAME_START is the start moment. -/
theorem exec_frameStart_of_open {s : State} (open_ : s.line.tracking ≠ .ending) (q : Nat) :
    exec (.frameStart q) s = .next (s.frameStart q) := by
  obtain ⟨-, same⟩ | ⟨ending, -⟩ := s.afterLastPhase_cases
  · exact congrArg (fun u : State => Host.Outcome.next (u.frameStart q)) same
  · exact absurd ending open_

/-- R124, R125, R127: straight after a FRAME_END the last frame phase closes first. -/
theorem exec_frameStart_of_ending {s : State} (ending : s.line.tracking = .ending) (q : Nat) :
    exec (.frameStart q) s =
      exec (.frameStart q) { s with line := { s.line with tracking := .quiet, quiet := 0, ltx := .rest } } := by
  obtain ⟨other, -⟩ | ⟨-, closed⟩ := s.afterLastPhase_cases
  · exact absurd ending other
  · change Host.Outcome.next (s.afterLastPhase.frameStart q) = _
    rw [closed]
    rfl

/-- R127: a start moment in QUIET counts the quiet time and asks for a frame where it has come to 12. -/
theorem exec_frameStart_of_quiet {s : State} {q : Nat} (quiet : s.line.tracking = .quiet) (held : s.line.quiet ≤ q)
    (bound : q ≤ 40) :
    exec (.frameStart q) s = .next (State.askIfSettled { s with
      line := { s.line with quiet := q }
      outbound := { s.outbound with spent := s.outbound.spent && decide (q < 40) } }) := by
  rw [exec_frameStart_of_open (by simp [quiet]), State.frameStart, if_pos quiet, State.quietComesTo_eq held bound]

/-- Settles O32: the start moment by where the line unit stands, the question for a frame by `ask_cases`. -/
theorem frameStartFixesTheFrame : Obligations.FrameStartFixesTheFrame := by
  unfold Obligations.FrameStartFixesTheFrame
  intro q s
  dsimp only
  refine ⟨fun busy open_ => ?_, fun ending => exec_frameStart_of_ending ending q, fun quiet held short => ?_,
    fun quiet held settled bound none_chosen => ?_, fun e quiet held settled bound choice => ?_⟩
  · rw [exec_frameStart_of_open open_, State.frameStart, if_neg busy]
  · rw [exec_frameStart_of_quiet quiet held (by omega), State.askIfSettled_of_lt short]
  · rw [exec_frameStart_of_quiet quiet held bound, State.askIfSettled_of_le settled]
    obtain ⟨-, same⟩ | ⟨e, choice, -⟩ := State.ask_cases _
    · rw [same]
    · rw [none_chosen] at choice
      contradiction
  · rw [exec_frameStart_of_quiet quiet held bound, State.askIfSettled_of_le settled]
    obtain ⟨none_chosen, -⟩ | ⟨x, choice', asked⟩ := State.ask_cases _
    · rw [none_chosen] at choice
      contradiction
    · obtain rfl := Option.some.inj (choice.symm.trans choice')
      rw [asked]

end Sys2Proof.Machine
end

section
/-! Bit errors (R38, R113 to R116, R129, R141). -/

namespace Sys2Proof.Machine

set_option Elab.async false

/-! ### The attempt whose withdrawal waits -/

/-- R110, R118, R141: an attempt whose withdrawal waits goes, and with it only a slot that is drop-wanted. -/
theorem State.endAttempt_waiting {s : State} (fits : s.SlotsFit) {e : Entry} (sent : s.outbound.onLine = some e)
    (waits : e.withdrawn = true) (counted : Bool) :
    (s.endAttempt counted).outbound.entries = s.outbound.entries.filter (fun x => !x.onLine) ∧
      (∀ k, e.kind = .claim k → (s.slotAt k).dropWanted = true →
        (s.endAttempt counted).slots = s.slots.set k
          { state := .free, mode := none, zones := [], reason := none, changed := true, dropWanted := false }) ∧
      ((∀ k, e.kind = .claim k → (s.slotAt k).dropWanted = false) → (s.endAttempt counted).slots = s.slots) := by
  refine ⟨?_, fun k claim wanted => ?_, fun kept => ?_⟩
  · simp only [State.endAttempt, sent, waits, if_true]
    rw [State.settleDropWanted_outbound]
  · rw [State.endAttempt_withdrawn fits sent waits claim wanted]
  · rw [State.endAttempt_withdrawn_plain sent waits kept]

/-! ### The bit error -/

/-- R38, R113, R129: the state in which an exhaustion is acted on at a bit error. -/
def State.afterBitError (s : State) : State :=
  ((s.endAttempt true).stopDriving).markAbandoned

theorem State.afterBitError_frame (s : State) :
    s.afterBitError = { s with
      line := { s.line with ltx := .rest }
      judgement := s.judgement.map fun j => { j with abandoned := true }
      outbound := (s.endAttempt true).outbound
      slots := (s.endAttempt true).slots } := by
  unfold State.afterBitError
  rw [State.endAttempt_frame]
  rfl

theorem State.bitError_of_sent {s : State} {e : Entry} (frame : s.line.tracking = .frame)
    (sent : s.outbound.onLine = some e) : s.bitError = s.afterBitError.actOnExhaustion :=
  if_pos ⟨frame, by simp [sent]⟩

/-- R115, R116: a bit error that brings the retry count of the entry on the line to T. -/
theorem State.bitError_of_exhausts {s : State} {e : Entry} (fits : s.OutboundFits) (frame : s.line.tracking = .frame)
    (sent : s.outbound.onLine = some e) (stays : e.withdrawn = false) (limit : e.retries + 1 = s.retryLimit) :
    s.bitError = if e.kind.isJoin then s.afterBitError.halt .joinFailed else s.afterBitError.selfRestart .retries := by
  have exhausted : s.afterBitError.exhausted = some (e.returned true) := by
    rw [State.afterBitError_frame]
    exact fits.endAttempt_exhausted sent stays limit
  rw [State.bitError_of_sent frame sent, State.actOnExhaustion_of_exhausted exhausted, Entry.returned_kind]

/-- R38, R113: the station after a bit error at an attempt whose withdrawal does not wait. -/
theorem State.afterBitError_returned {s : State} {e : Entry} (sent : s.outbound.onLine = some e)
    (stays : e.withdrawn = false) :
    s.afterBitError = { s with
      line := { s.line with ltx := .rest }
      judgement := s.judgement.map fun j => { j with abandoned := true }
      outbound := { s.outbound with entries := s.outbound.entries.map (Entry.returned true), sending := [] } } := by
  rw [State.afterBitError_frame, State.endAttempt_returned sent stays]

/-! ### What no bit error leaves: a frame of the own on the line -/

/-- R119: the clearing puts no entry on the line. -/
theorem State.selfRestart_onLine (c : OutCause) (s : State) : (s.selfRestart c).outbound.onLine = none := by
  change (s.giveUp .out).outbound.onLine = none
  rw [State.giveUp_entries, Outbound.onLine, List.find?_eq_none]
  intro e he
  obtain ⟨k, -, rfl⟩ := List.mem_map.mp he
  exact Bool.false_ne_true

/-- R113, R129: after a bit error no own frame is on the line, and LTX is released. -/
theorem State.bitError_released {s : State} {e : Entry} (frame : s.line.tracking = .frame)
    (sent : s.outbound.onLine = some e) : s.bitError.outbound.onLine = none ∧ s.bitError.line.ltx = .rest := by
  have idle : s.afterBitError.outbound.onLine = none := s.endAttempt_onLine true
  have quiet : s.afterBitError.line.ltx = .rest := rfl
  rw [State.bitError_of_sent frame sent]
  obtain ⟨-, h⟩ | ⟨_, -, -, -, h⟩ | ⟨_, -, -, -, h⟩ := s.afterBitError.actOnExhaustion_cases <;> rw [h]
  · exact ⟨idle, quiet⟩
  · exact ⟨State.halt_onLine idle _, rfl⟩
  · exact ⟨State.selfRestart_onLine _ _, rfl⟩

/-! ### The bit error bit by bit (R129) -/

/-- R37, R60: a frame with a faulty end bit is no clash. -/
theorem State.clashFound_of_fault {c : FrameCells} (fault : c.endFault = true) (s : State) : s.clashFound c = s := by
  obtain ⟨-, same⟩ | ⟨clash, -⟩ := s.clashFound_cases c
  · exact same
  · have good : c.reception = .good := by
      simp only [State.clashes, Bool.and_eq_true, beq_iff_eq] at clash
      exact clash.1.1.2
    rw [((reception_good_iff c).mp good).1] at fault
    contradiction

/-- R34, R37: the end of cells with a faulty end bit changes the judgement alone. -/
theorem State.endOfCells_of_fault {x : Rx} (fault : x.endFault = true) (s : State) :
    s.endOfCells x = { s with judgement := (s.endOfCells x).judgement } := by
  unfold State.endOfCells
  split
  · rw [State.clashFound_of_fault fault]
  · rfl

section
variable {x : Rx} {s : State} (following : s.line.rx = some x) (inside : x.position < x.cellBits)
include following inside

/-- R129: a data bit of a cell after the key, in conflict with the own frame, is a bit error. -/
theorem State.frameBit_data_conflict (later : 10 ≤ x.position) (low : 1 ≤ x.position % 10) (high : x.position % 10 ≤ 8)
    (conflict : s.conflict x .drive = true) :
    s.frameBit .drive = (s.setRx { x with position := x.position + 1, cell := x.cell ++ [false] }).bitError := by
  rw [State.frameBit_cell following inside, State.cellBit]
  simp only [conflict, show ¬x.position % 10 = 0 by omega, show x.position % 10 < 9 by omega,
    show ¬x.position / 10 = 0 by omega, if_true, if_false]
  rfl

/-- R37, R129: the end bit of a body or CRC cell, in conflict with the own frame, is a fault that the judgement records
and a bit error; the last one is the end of the cells besides. -/
theorem State.frameBit_end_conflict (end_bit : x.position % 10 = 9) (later : 20 ≤ x.position)
    (conflict : s.conflict x .drive = true) :
    s.frameBit .drive =
      if (x.cellRead .drive).position = (x.cellRead .drive).cellBits ∧ 2 ≤ (x.cellRead .drive).octets.length then
        (s.cellDone .drive x).bitError.endOfCells (x.cellRead .drive)
      else (s.cellDone .drive x).bitError := by
  rw [State.frameBit_cell following inside, State.cellBit]
  simp only [end_bit, conflict, show ¬9 = 0 by omega, show ¬9 < 9 by omega, show ¬x.position / 10 = 0 by omega,
    show ¬x.position / 10 = 1 by omega, if_true, if_false, and_false, false_and]
  rfl

/-- R34, R37, R129: whatever the end of the cells adds to the judgement, such an end bit is else the bit error alone. -/
theorem State.frameBit_end_error (end_bit : x.position % 10 = 9) (later : 20 ≤ x.position)
    (conflict : s.conflict x .drive = true) :
    s.frameBit .drive = { (s.cellDone .drive x).bitError with judgement := (s.frameBit .drive).judgement } := by
  have fault : (x.cellRead .drive).endFault = true := by simp [Rx.cellRead]
  rw [State.frameBit_end_conflict following inside end_bit later conflict]
  split
  · exact State.endOfCells_of_fault fault _
  · rfl

/-- R34, R129: a bit inside the body and CRC cells that is no conflict with the own frame, and no mark read REST, is
recorded and changes nothing of the station but that record and the judgement. -/
theorem State.frameBit_recorded {b : Level} (later : 20 ≤ x.position) (not_last : x.position + 1 < x.cellBits)
    (no_break : b = .drive ∨ x.position % 10 ≠ 0) (calm : s.conflict x b = false) :
    ∃ y j, s.frameBit b = { s.setRx y with judgement := j } := by
  have two : 2 ≤ x.octets.length := by
    by_contra few
    rw [Rx.cellBits_of_few (by omega)] at inside
    omega
  obtain mark | low | end_bit :
      x.position % 10 = 0 ∨ (1 ≤ x.position % 10 ∧ x.position % 10 ≤ 8) ∨ x.position % 10 = 9 := by omega
  · obtain rfl : b = .drive := no_break.resolve_right (not_not_intro mark)
    exact ⟨_, _, State.frameBit_mark following inside mark⟩
  · exact ⟨_, _, State.frameBit_data following inside low.1 low.2 calm⟩
  · have open_ : ¬((x.cellRead b).position = (x.cellRead b).cellBits ∧ 2 ≤ (x.cellRead b).octets.length) := by
      rintro ⟨last, more⟩
      rw [Rx.cellBits_of_two more, Rx.cellRead] at last
      rw [Rx.cellBits_of_two two] at not_last
      dsimp only at last
      rw [getD_one_append two] at last
      omega
    rw [State.frameBit_end following inside end_bit (fun _ => by omega) (fun _ => by omega) calm, if_neg open_]
    unfold State.cellDone
    split
    · exact ⟨_, _, rfl⟩
    · exact ⟨_, _, rfl⟩

end

/-- Settles O35: the three ends of the attempt by the lemmas on `afterBitError`, the bits by the branches of `cellBit`. -/
theorem bitErrorCountsTheAttempt : Obligations.BitErrorCountsTheAttempt := by
  unfold Obligations.BitErrorCountsTheAttempt
  intro s e inv frame sent
  obtain ⟨-, -, -, slotsFit, fits, -⟩ := inv
  have conflict (x : Rx) :
      x.position < 10 * s.outbound.sending.length ∧ sentLevel s.outbound.sending x.position = .rest →
        s.conflict x .drive = true :=
    fun rested => (State.conflict_iff s x .drive).mpr ⟨by simp [sent], rfl, rested⟩
  refine ⟨fun stays short => ?_, fun stays limit other => ⟨_, rfl, ?_⟩, fun stays limit join => ⟨_, rfl, ?_⟩,
    fun waits => ⟨_, rfl, ?_⟩, fun x following later inside => ⟨fun calm body not_last b no_break => ?_,
      fun rested low high => ?_, fun rested end_bit body whole => ⟨_, rfl, ?_⟩⟩⟩
  · refine congrArg Host.Outcome.next ((State.bitError_of_short fits frame sent (.inr short)).trans ?_)
    exact State.afterBitError_returned sent stays
  · rw [State.bitError_of_exhausts fits frame sent stays limit, other, if_neg Bool.false_ne_true,
      State.afterBitError_returned sent stays]
    refine ⟨State.selfRestarts_of .retries ?_ rfl rfl rfl rfl rfl, rfl, rfl⟩
    simp [Function.comp_def]
  · have after := State.afterBitError_returned sent stays
    rw [State.bitError_of_exhausts fits frame sent stays limit, join, if_pos rfl]
    obtain ⟨fails, roster⟩ := State.joinFails_of (s := s) (u := s.afterBitError) (by
      rw [after]
      exact fits.filter_returned sent (p := fun k => !k.isJoin) (by simp [join]) _) (by rw [after])
    refine ⟨fails, roster, ?_, ?_, ?_, ?_⟩ <;> rw [after] <;> rfl
  · obtain ⟨entries, freed, kept⟩ := State.endAttempt_waiting slotsFit sent waits true
    have after := (State.bitError_of_short fits frame sent (.inl waits)).trans s.afterBitError_frame
    rw [after]
    exact ⟨rfl, rfl, rfl, entries, freed, kept⟩
  · have own_bit : s.conflict x b = false := by
      rw [Bool.eq_false_iff]
      exact fun c => calm ((State.conflict_iff s x b).mp c).2.2
    obtain ⟨y, j, read⟩ := State.frameBit_recorded following inside body not_last no_break own_bit
    rw [read]
    exact ⟨rfl, rfl, rfl⟩
  · have read := State.frameBit_data_conflict following inside later low high (conflict x rested)
    obtain ⟨idle, released⟩ := State.bitError_released (e := e)
      (s := s.setRx { x with position := x.position + 1, cell := x.cell ++ [false] }) frame sent
    rw [read]
    exact ⟨rfl, idle, released⟩
  · have done : s.cellDone .drive x = (s.setRx (x.cellRead .drive)).markError := if_pos rfl
    have read := State.frameBit_end_error following inside end_bit body (conflict x rested)
    obtain ⟨idle, released⟩ := State.bitError_released (e := e) (s := (s.setRx (x.cellRead .drive)).markError) frame sent
    have record : x.cellRead .drive =
        { x with position := x.position + 1, cell := [], octets := x.octets ++ [octetOfBits x.cell], endFault := true } := by
      simp [Rx.cellRead]
    rw [done, record] at read
    rw [record] at idle released
    exact ⟨read, idle, released⟩

end Sys2Proof.Machine
end

section
/-! SUPPORT. What the bits of a frame and its end leave of the line unit: the sample clock, the level filter, the phase, the
line condition and its counts (R120 to R122, R130, R131). -/

namespace Sys2Proof.Machine

set_option Elab.async false

/-- R120 to R122, R130, R131: the line unit without what belongs to the frame on the line: LTX, the tracking state, its counts
and the record of the frame. -/
def LineUnit.sampler (l : LineUnit) : LineUnit :=
  { l with ltx := .rest, tracking := .none, quiet := 0, recoverRun := 0, rx := none }

/-- The sampler of a station. -/
def State.sampler (s : State) : LineUnit :=
  s.line.sampler

/-! ### The attempt on the line, the self-restart and the halt -/

@[simp] theorem State.endAttempt_sampler (counted : Bool) (s : State) : (s.endAttempt counted).sampler = s.sampler := by
  rw [State.endAttempt_frame]
  rfl

@[simp] theorem State.takeEntry_sampler (s : State) : s.takeEntry.sampler = s.sampler := by
  rw [State.takeEntry_frame]
  rfl

@[simp] theorem State.halt_sampler (c : HaltCause) (s : State) : (s.halt c).sampler = s.sampler := rfl

@[simp] theorem State.selfRestart_sampler (c : OutCause) (s : State) : (s.selfRestart c).sampler = s.sampler := rfl

@[simp] theorem State.actOnExhaustion_sampler (s : State) : s.actOnExhaustion.sampler = s.sampler := by
  obtain ⟨-, h⟩ | ⟨_, -, -, -, h⟩ | ⟨_, -, -, -, h⟩ := s.actOnExhaustion_cases <;> rw [h]
  · exact s.halt_sampler _
  · exact s.selfRestart_sampler _

@[simp] theorem State.clashFound_sampler (c : FrameCells) (s : State) : (s.clashFound c).sampler = s.sampler := by
  obtain ⟨-, h⟩ | ⟨-, h⟩ := s.clashFound_cases c <;> rw [h]
  rw [State.halt_sampler, State.endAttempt_sampler]

/-! ### The frame end (R47) -/

/-- R47: however the end of a frame leaves the line unit, the sampler stands. -/
theorem State.sampler_of_closed {l : LineUnit} {s : State} (h : s.ClosesFrame l ∨ s.RestartsLine l) :
    s.sampler = l.sampler := by
  obtain ⟨-, line | ⟨-, line⟩⟩ | ⟨-, -, line⟩ := h <;> exact (congrArg LineUnit.sampler line).trans rfl

theorem State.joiningFrameEnd_sampler (own : Bool) (obs : FrameObs) (s : State) :
    (s.joiningFrameEnd own obs).sampler = s.sampler := by
  have joined (u : State) : (u.ownJoinTaken obs.rollCall obs.standing).sampler = u.sampler := by
    unfold State.ownJoinTaken
    dsimp only
    split
    · rfl
    · rw [State.resetRun_frame]
      rfl
  unfold State.joiningFrameEnd
  split_ifs <;> simp [joined]

@[simp] theorem State.frameEnd_sampler (obs : FrameObs) (s : State) : (s.frameEnd obs).sampler = s.sampler := by
  by_cases frame : s.line.tracking = .frame
  · obtain ⟨line, judgement, -⟩ := s.settledFrame_line obs.cells
    have settled : (s.settledFrame obs.cells).sampler = s.sampler :=
      (congrArg LineUnit.sampler line).trans (s.clashFound_sampler obs.cells)
    have handed (own : Bool) : ((s.settledFrame obs.cells).handOn own obs).sampler = (s.settledFrame obs.cells).sampler := by
      have member : ((s.settledFrame obs.cells).memberFrameEnd own obs).sampler = (s.settledFrame obs.cells).sampler :=
        (State.sampler_of_closed (State.memberFrameEnd_line ⟨line, judgement⟩)).trans (congrArg LineUnit.sampler line).symm
      unfold State.handOn
      cases (s.settledFrame obs.cells).station <;> simp only [member, State.joiningFrameEnd_sampler]
    rw [State.frameEnd_eq frame, handed, settled]
  · rw [State.frameEnd, if_neg frame]

/-! ### A bit in a tracking state (R124 to R126) -/

@[simp] theorem State.arbitrationLoss_sampler (s : State) : s.arbitrationLoss.sampler = s.sampler := by
  unfold State.arbitrationLoss
  split
  · exact State.endAttempt_sampler false s
  · rfl

@[simp] theorem State.bitError_sampler (s : State) : s.bitError.sampler = s.sampler := by
  unfold State.bitError
  split
  · exact (State.actOnExhaustion_sampler _).trans (State.endAttempt_sampler true s)
  · rfl

@[simp] theorem State.brokenOff_sampler (cause : BreakCause) (s : State) : (s.brokenOff cause).sampler = s.sampler := by
  unfold State.brokenOff
  split
  · exact (State.actOnExhaustion_sampler _).trans (State.endAttempt_sampler _ s)
  · rfl

@[simp] theorem State.setRx_sampler (x : Rx) (s : State) : (s.setRx x).sampler = s.sampler := rfl
@[simp] theorem State.markError_sampler (s : State) : s.markError.sampler = s.sampler := rfl
@[simp] theorem State.decideVoid_sampler (x : Rx) (s : State) : (s.decideVoid x).sampler = s.sampler := rfl
@[simp] theorem State.decideOutcome_sampler (x : Rx) (s : State) : (s.decideOutcome x).sampler = s.sampler := rfl

@[simp] theorem State.endOfCells_sampler (x : Rx) (s : State) : (s.endOfCells x).sampler = s.sampler := by
  unfold State.endOfCells
  split
  · exact s.clashFound_sampler x.cells
  · rfl

theorem State.cellBit_sampler (b : Level) (x : Rx) (s : State) : (s.cellBit b x).sampler = s.sampler := by
  unfold State.cellBit
  dsimp only
  split_ifs <;> simp

theorem State.phaseBit_sampler (b : Level) (x : Rx) (s : State) : (s.phaseBit b x).sampler = s.sampler := by
  unfold State.phaseBit
  dsimp only
  split_ifs <;> simp

theorem State.frameBit_sampler (b : Level) (s : State) : (s.frameBit b).sampler = s.sampler := by
  unfold State.frameBit
  split
  · rfl
  · split
    · exact s.cellBit_sampler b _
    · exact s.phaseBit_sampler b _

theorem State.becomeAware_sampler (s : State) : s.becomeAware.sampler = s.sampler := by
  unfold State.becomeAware
  dsimp only
  split_ifs <;> rfl

theorem State.recoverBit_sampler (b : Level) (s : State) : (s.recoverBit b).sampler = s.sampler := by
  unfold State.recoverBit
  split_ifs
  · rfl
  · rfl
  · exact s.becomeAware_sampler

/-- R125: whatever the tracking state makes of a bit, the sampler stands. -/
theorem State.trackedBit_sampler (b : Level) (s : State) : (s.trackedBit b).sampler = s.sampler := by
  unfold State.trackedBit
  split
  · rfl
  · exact s.recoverBit_sampler b
  · unfold State.quietBit
    split <;> rfl
  · exact s.frameBit_sampler b
  · rfl

end Sys2Proof.Machine
end

section
/-! STUCK and NORMAL (R130 to R132, R141). -/

namespace Sys2Proof.Machine

set_option Elab.async false

/-! ### A bit read, by the line condition (R130, R131) -/

/-- R130: a bit read on a NORMAL line that leaves the drive count below 48 goes to the tracking state. -/
theorem State.readBit_of_tracked {s : State} (normal : s.line.condition = .normal)
    (low : s.line.accepted = .drive → s.line.driveRun < 47) :
    s.readBit = (s.countDrive s.line.accepted).trackedBit s.line.accepted := by
  have short : ¬Config.stuckRun ≤ (s.countDrive s.line.accepted).line.driveRun := by
    rw [State.countDrive]
    dsimp only
    split
    · have := low ‹_›
      simp only [Config.stuckRun]
      omega
    · simp [Config.stuckRun]
  simp only [State.readBit, normal, if_neg short]

/-- R130: the 48th DRIVE bit on a NORMAL line makes it STUCK. -/
theorem State.readBit_of_full {s : State} (normal : s.line.condition = .normal) (drive : s.line.accepted = .drive)
    (full : s.line.driveRun = 47) : s.readBit = (s.countDrive .drive).becomeStuck := by
  have long : Config.stuckRun ≤ (s.countDrive .drive).line.driveRun := by simp [State.countDrive, full, Config.stuckRun]
  simp only [State.readBit, normal, drive, if_pos long]

/-- R131: a bit read on a STUCK line. -/
theorem State.readBit_of_stuck {s : State} (stuck : s.line.condition = .stuck) :
    s.readBit = (s.countDrive s.line.accepted).stuckBit s.line.accepted := by
  simp only [State.readBit, stuck]

/-- What each bit read takes on to the next count holds after every number of bits up to the last. -/
theorem State.iterate_readBit {P : Nat → State → Prop} {n : Nat} {s : State} (start : P 0 s)
    (next : ∀ m u, m + 1 < n → P m u → P (m + 1) u.readBit) : ∀ m, m < n → P m (State.readBit^[m] s) := by
  intro m
  induction m with
  | zero => exact fun _ => start
  | succ m ih =>
    intro within
    rw [Function.iterate_succ_apply']
    exact next m _ within (ih (by omega))

/-! ### STUCK (R130) -/

/-- R130, R132: what the line's becoming STUCK comes to. -/
theorem State.becomeStuck_eq {s : State} (samples : s.line.sampling = true) (normal : s.line.condition = .normal) :
    s.becomeStuck = { s with
      line := { s.line with condition := .stuck, ltx := .rest, tracking := .none, rx := none,
                            driveRun := max s.line.driveRun Config.stuckRun, restRun := 0 }
      judgement := none
      attention := { s.attention with line := { pending := true, detail := 1 } }
      outbound := (s.endAttempt false).outbound
      slots := (s.endAttempt false).slots } := by
  rw [State.becomeStuck, if_pos ⟨samples, normal⟩, State.endAttempt_frame]
  rfl

/-- R110: an attempt that ends uncounted with no withdrawal waiting returns the entry as it was. -/
theorem State.endAttempt_uncounted {s : State} (none_waits : ∀ e ∈ s.outbound.entries, e.withdrawn = false) :
    (s.endAttempt false).outbound.entries =
        s.outbound.entries.map (fun x => if x.onLine = true then { x with onLine := false } else x) ∧
      (s.endAttempt false).slots = s.slots := by
  obtain ⟨idle, same⟩ | ⟨e, sent, waits, -⟩ | ⟨e, -, -, back⟩ := s.endAttempt_cases false
  · rw [same]
    refine ⟨((List.map_congr_left fun x hx => ?_).trans (List.map_id _)).symm, rfl⟩
    exact if_neg (List.find?_eq_none.mp idle x hx)
  · rw [none_waits e (s.outbound.onLine_some e sent).1] at waits
    contradiction
  · rw [back]
    exact ⟨rfl, rfl⟩

/-- R103, R109: an entry whose withdrawal waits is the one on the line. -/
theorem State.OutboundFits.onLine_of_withdrawn {s : State} (h : s.OutboundFits) {e : Entry} (he : e ∈ s.outbound.entries)
    (waits : e.withdrawn = true) : s.outbound.onLine = some e := by
  obtain ⟨-, -, waiting, -⟩ := id h
  have on := waiting e he waits
  cases sent : s.outbound.onLine with
  | none => exact absurd on (List.find?_eq_none.mp sent e he)
  | some x => rw [h.eq_of_onLine sent he on]

/-! ### The 48 DRIVE bits and the 40 REST bits -/

/-- R130: a DRIVE bit before the 48th on a NORMAL line is counted, whatever the tracking state makes of it. -/
theorem State.sampler_of_drive {s : State} (normal : s.line.condition = .normal) (drive : s.line.accepted = .drive)
    (short : s.line.driveRun < 47) : s.readBit.sampler = { s.sampler with driveRun := s.line.driveRun + 1 } := by
  rw [State.readBit_of_tracked normal fun _ => short, State.trackedBit_sampler, drive]
  rfl

/-- R130, R132: the 48th DRIVE bit on a NORMAL line. -/
theorem State.stuck_of_drive {s : State} (samples : s.line.sampling = true) (normal : s.line.condition = .normal)
    (drive : s.line.accepted = .drive) (full : s.line.driveRun = 47) :
    s.readBit.line.condition = .stuck ∧ s.readBit.line.ltx = .rest ∧ s.readBit.line.tracking = .none ∧
      s.readBit.attention.line = { pending := true, detail := 1 } := by
  rw [State.readBit_of_full normal drive full, State.becomeStuck_eq (s := s.countDrive .drive) samples normal]
  exact ⟨rfl, rfl, rfl, rfl⟩

/-- R131: a REST bit before the 40th on a STUCK line is counted. -/
theorem State.readBit_of_stuck_rest {s : State} (stuck : s.line.condition = .stuck) (rest : s.line.accepted = .rest)
    (short : s.line.restRun + 1 < 40) :
    s.readBit = { s with line := { s.line with driveRun := 0, restRun := s.line.restRun + 1 } } := by
  rw [State.readBit_of_stuck stuck, rest]
  exact if_pos short

/-- R131: the 40th REST bit on a STUCK line. -/
theorem State.readBit_of_stuck_full {s : State} (stuck : s.line.condition = .stuck) (rest : s.line.accepted = .rest)
    (full : s.line.restRun = 39) : s.readBit = (s.countDrive .rest).becomeNormal := by
  have long : ¬s.line.restRun + 1 < Config.normalRun := by simp [full, Config.normalRun]
  rw [State.readBit_of_stuck stuck, rest]
  exact if_neg long

/-- Settles O38: the events by what they come to; the bits by counting them, the sampler standing whatever frame they make. -/
theorem lineConditionChanges : Obligations.LineConditionChanges := by
  unfold Obligations.LineConditionChanges
  intro s fits slotsFit returned remaining freed after
  have next (m : Nat) : after (m + 1) = (after m).readBit := Function.iterate_succ_apply' _ m s
  refine ⟨fun samples normal => ⟨_, rfl, ?_⟩, fun stuck => ?_, fun stuck => ?_, fun normal => ?_,
    fun samples normal drive fresh => ?_, fun stuck rest fresh => ?_, fun stuck drive => ?_⟩
  · have becomes := State.becomeStuck_eq samples normal
    rw [becomes]
    refine ⟨rfl, rfl, rfl, rfl, rfl, rfl, rfl, rfl, rfl, rfl, rfl, fun none_waits => State.endAttempt_uncounted none_waits,
      fun e he waits => ?_⟩
    exact State.endAttempt_waiting slotsFit (fits.onLine_of_withdrawn he waits) waits false
  · refine congrArg Host.Outcome.next (if_neg fun ⟨_, normal⟩ => ?_)
    rw [stuck] at normal
    contradiction
  · exact congrArg Host.Outcome.next (if_pos stuck)
  · exact congrArg Host.Outcome.next (if_neg (by simp [normal]))
  · have counted : ∀ m, m < 48 → (after m).sampler = { s.sampler with driveRun := m } := by
      refine State.iterate_readBit (P := fun m u => u.sampler = { s.sampler with driveRun := m }) ?_ fun m u within held => ?_
      · rw [← fresh]
        rfl
      · have count : u.line.driveRun = m := congrArg LineUnit.driveRun held
        rw [State.sampler_of_drive ((congrArg LineUnit.condition held).trans normal)
          ((congrArg LineUnit.accepted held).trans drive) (by omega), held, count]
    refine ⟨fun m within => ⟨(congrArg LineUnit.condition (counted m within)).trans normal,
      congrArg LineUnit.driveRun (counted m within)⟩, ?_⟩
    have last := counted 47 (by omega)
    rw [show after 48 = (after 47).readBit from next 47]
    exact State.stuck_of_drive ((congrArg LineUnit.sampling last).trans samples)
      ((congrArg LineUnit.condition last).trans normal) ((congrArg LineUnit.accepted last).trans drive)
      (congrArg LineUnit.driveRun last)
  · have counted : ∀ m, m < 40 → (after m).line.condition = .stuck ∧
        (after m).line.accepted = .rest ∧ (after m).line.restRun = m := by
      refine State.iterate_readBit
        (P := fun m u => u.line.condition = .stuck ∧ u.line.accepted = .rest ∧ u.line.restRun = m) ⟨stuck, rest, fresh⟩ ?_
      rintro m u within ⟨still, rests, rfl⟩
      rw [State.readBit_of_stuck_rest still rests within]
      exact ⟨still, rests, rfl⟩
    refine ⟨fun m within => ⟨(counted m within).1, (counted m within).2.2⟩, ?_⟩
    obtain ⟨still, rests, count⟩ := counted 39 (by omega)
    have last : after 40 = _ := (next 39).trans ((State.readBit_of_stuck_full still rests count).trans (if_pos still))
    rw [last]
    exact ⟨rfl, rfl, rfl, rfl⟩
  · have read : s.readBit = { s with line := { s.line with driveRun := s.line.driveRun + 1, restRun := 0 } } := by
      rw [State.readBit_of_stuck stuck, drive]
      rfl
    rw [show after 1 = s.readBit from next 0, read]
    exact ⟨rfl, stuck⟩

end Sys2Proof.Machine
end

section
/-! Frame-aware and the round gap (R78, R117, R125, R126). -/

namespace Sys2Proof.Machine

set_option Elab.async false

/-! ### Frame-aware (R78, R126) -/

/-- R126: the line unit of a station that has become frame-aware. -/
def LineUnit.aware (l : LineUnit) : LineUnit :=
  { l with tracking := .quiet, quiet := 40, recoverRun := 0 }

/-- R126: frame-aware at a station that is not in LISTEN. -/
theorem State.becomeAware_of_other {s : State} (recovering : s.line.tracking = .recovering)
    (normal : s.line.condition = .normal) (other : s.station ≠ .listen) :
    s.becomeAware = { s with line := s.line.aware, outbound := { s.outbound with spent := false } } := by
  rw [State.becomeAware, if_pos ⟨recovering, normal⟩]
  exact if_neg other

/-- R78, R126: frame-aware at a LISTEN station, which asks for a JOIN entry. -/
theorem State.becomeAware_of_listen {s : State} (recovering : s.line.tracking = .recovering)
    (normal : s.line.condition = .normal) (listen : s.station = .listen) :
    s.becomeAware = { s with
      station := .joining
      line := s.line.aware
      outbound := ({ s.outbound with spent := false }).request (.join false) } := by
  rw [State.becomeAware, if_pos ⟨recovering, normal⟩]
  exact if_pos listen

/-- R104: a JOIN is entered last where none is held. -/
theorem Outbound.request_join {o : Outbound} (unheld : ∀ e ∈ o.entries, e.kind.isJoin = false) (pass : Bool) :
    o.request (.join pass) =
      { o with entries := o.entries ++ [{ kind := .join pass, retries := 0, onLine := false, withdrawn := false }] } := by
  obtain ⟨held, -⟩ | ⟨-, added⟩ := o.request_cases (.join pass)
  · obtain ⟨e, he, answers⟩ := List.any_eq_true.mp held
    have other := unheld e he
    cases kind : e.kind <;> simp [kind, EntryKind.answers, EntryKind.isJoin] at answers other
  · exact added

/-- R78, R117, R126: what frame-aware leaves of tracking, quiet time, spent flag and station state. -/
theorem State.becomeAware_keeps {s : State} (recovering : s.line.tracking = .recovering)
    (normal : s.line.condition = .normal) :
    s.becomeAware.line = s.line.aware ∧ s.becomeAware.outbound.spent = false ∧
      s.becomeAware.station = if s.station = .listen then .joining else s.station := by
  by_cases listen : s.station = .listen
  · rw [State.becomeAware_of_listen recovering normal listen, if_pos listen]
    refine ⟨rfl, ?_, rfl⟩
    obtain ⟨-, same⟩ | ⟨-, added⟩ := Outbound.request_cases { s.outbound with spent := false } (.join false)
    · rw [same]
    · rw [added]
  · rw [State.becomeAware_of_other recovering normal listen, if_neg listen]
    exact ⟨rfl, rfl, rfl⟩

/-! ### The round gap (R117) -/

/-- R117: quiet time that comes to 40 clears the spent flag. -/
theorem State.quietComesTo_gap (s : State) :
    s.quietComesTo 40 = { s with line := { s.line with quiet := 40 }, outbound := { s.outbound with spent := false } } := by
  simp [State.quietComesTo, Config.roundGap]

/-- R117: the round gap outside the last frame phase. -/
theorem exec_roundGap_of_open {s : State} (open_ : s.line.tracking ≠ .ending) : exec .roundGap s = .next s.roundGap := by
  obtain ⟨-, same⟩ | ⟨ending, -⟩ := s.afterLastPhase_cases
  · exact congrArg (fun u : State => Host.Outcome.next u.roundGap) same
  · exact absurd ending open_

/-! ### The bits that bring them (R125, R126) -/

/-- R125, R126: a bit read while RECOVERING on a NORMAL line. -/
theorem State.readBit_recovering {s : State} (recovering : s.line.tracking = .recovering)
    (normal : s.line.condition = .normal) (low : s.line.accepted = .drive → s.line.driveRun < 47) :
    s.readBit = (s.countDrive s.line.accepted).recoverBit s.line.accepted := by
  rw [State.readBit_of_tracked normal low]
  simp only [State.trackedBit, State.countDrive, recovering]

section
variable {s : State} (recovering : s.line.tracking = .recovering) (normal : s.line.condition = .normal)
include recovering normal

/-- R126: a REST bit before the 80th while RECOVERING is counted. -/
theorem State.readBit_of_recovering_rest (rest : s.line.accepted = .rest) (short : s.line.recoverRun + 1 < 80) :
    s.readBit = { s with line := { s.line with driveRun := 0, recoverRun := s.line.recoverRun + 1 } } := by
  rw [State.readBit_recovering recovering normal (by simp [rest]), rest]
  exact if_pos short

/-- R126: a DRIVE bit while RECOVERING sets the count to 0. -/
theorem State.readBit_of_recovering_drive (drive : s.line.accepted = .drive) (short : s.line.driveRun < 47) :
    s.readBit = { s with line := { s.line with driveRun := s.line.driveRun + 1, recoverRun := 0 } } := by
  rw [State.readBit_recovering recovering normal fun _ => short, drive]
  rfl

/-- R78, R117, R126: the 80th REST bit while RECOVERING makes the station frame-aware. -/
theorem State.aware_of_rest (rest : s.line.accepted = .rest) (full : s.line.recoverRun = 79) :
    s.readBit.line.tracking = .quiet ∧ s.readBit.line.quiet = 40 ∧ s.readBit.outbound.spent = false ∧
      s.readBit.station = if s.station = .listen then .joining else s.station := by
  have long : ¬s.line.recoverRun + 1 < Config.awareRun := by simp [full, Config.awareRun]
  have read : s.readBit = (s.countDrive .rest).becomeAware := by
    rw [State.readBit_recovering recovering normal (by simp [rest]), rest]
    exact if_neg long
  obtain ⟨line, spent, station⟩ := State.becomeAware_keeps (s := s.countDrive .rest) recovering normal
  rw [read, line]
  exact ⟨rfl, rfl, spent, station⟩

end

/-- R117, R125: a REST bit in QUIET raises quiet time by 1, up to 40, where the spent flag clears. -/
theorem State.readBit_of_quiet {s : State} (quiet : s.line.tracking = .quiet) (normal : s.line.condition = .normal)
    (rest : s.line.accepted = .rest) (bound : s.line.quiet ≤ 40) :
    s.readBit = { s with
      line := { s.line with driveRun := 0, quiet := min 40 (s.line.quiet + 1) }
      outbound := { s.outbound with spent := s.outbound.spent && decide (s.line.quiet + 1 < 40) } } := by
  have count : min 40 (max s.line.quiet (s.line.quiet + 1)) = min 40 (s.line.quiet + 1) := by omega
  have below : (min 40 (s.line.quiet + 1) < 40) = (s.line.quiet + 1 < 40) := propext (by omega)
  rw [State.readBit_of_tracked normal (by simp [rest]), rest]
  simp only [State.trackedBit, State.countDrive, quiet, State.quietBit, State.quietComesTo, Config.roundGap, count, below]
  rfl

/-- Settles O39: the events by what they come to; the bits by counting them. -/
theorem frameAwareAndRoundGap : Obligations.FrameAwareAndRoundGap := by
  unfold Obligations.FrameAwareAndRoundGap
  intro s aware join after
  have next (m : Nat) : after (m + 1) = (after m).readBit := Function.iterate_succ_apply' _ m s
  refine ⟨fun recovering normal other => ?_, fun recovering normal listen unheld => ?_, fun where_ => ?_, fun quiet => ?_,
    fun ending => ?_, fun busy open_ => ?_, fun recovering normal rest fresh => ?_, fun recovering normal drive short => ?_,
    fun quiet normal rest below m _ => ?_⟩
  · exact congrArg Host.Outcome.next (State.becomeAware_of_other recovering normal other)
  · refine congrArg Host.Outcome.next ((State.becomeAware_of_listen recovering normal listen).trans ?_)
    rw [Outbound.request_join (o := { s.outbound with spent := false }) unheld]
    rfl
  · refine congrArg Host.Outcome.next (if_neg fun ⟨recovering, normal⟩ => ?_)
    rcases where_ with elsewhere | stuck
    · exact elsewhere recovering
    · rw [stuck] at normal
      contradiction
  · rw [exec_roundGap_of_open (by simp [quiet]), State.roundGap, if_pos quiet, ← State.quietComesTo_gap]
  · obtain ⟨other, -⟩ | ⟨-, closed⟩ := s.afterLastPhase_cases
    · exact absurd ending other
    · change Host.Outcome.next s.afterLastPhase.roundGap = _
      rw [closed]
      exact congrArg Host.Outcome.next (State.quietComesTo_gap _)
  · rw [exec_roundGap_of_open open_, State.roundGap, if_neg busy]
  · have counted : ∀ m, m < 80 → (after m).line.tracking = .recovering ∧ (after m).line.condition = .normal ∧
        (after m).line.accepted = .rest ∧ (after m).line.recoverRun = m ∧ (after m).station = s.station := by
      refine State.iterate_readBit (P := fun m u => u.line.tracking = .recovering ∧ u.line.condition = .normal ∧
        u.line.accepted = .rest ∧ u.line.recoverRun = m ∧ u.station = s.station)
        ⟨recovering, normal, rest, fresh, rfl⟩ ?_
      rintro m u within ⟨recovers, stays, rests, rfl, station⟩
      rw [State.readBit_of_recovering_rest recovers stays rests within]
      exact ⟨recovers, stays, rests, rfl, station⟩
    refine ⟨fun m within => ?_, ?_⟩
    · obtain ⟨recovers, -, -, count, station⟩ := counted m within
      exact ⟨recovers, count, station⟩
    · obtain ⟨recovers, stays, rests, count, station⟩ := counted 79 (by omega)
      rw [show after 80 = (after 79).readBit from next 79, ← station]
      exact State.aware_of_rest recovers stays rests count
  · rw [show after 1 = s.readBit from next 0, State.readBit_of_recovering_drive recovering normal drive short]
    exact ⟨rfl, recovering⟩
  · have counted : (after m).line.tracking = .quiet ∧ (after m).line.condition = .normal ∧
        (after m).line.accepted = .rest ∧ (after m).line.quiet = min 40 (s.line.quiet + m) ∧
        (after m).outbound.spent = (s.outbound.spent && decide (s.line.quiet + m < 40)) := by
      refine State.iterate_readBit (P := fun m u => u.line.tracking = .quiet ∧ u.line.condition = .normal ∧
        u.line.accepted = .rest ∧ u.line.quiet = min 40 (s.line.quiet + m) ∧
        u.outbound.spent = (s.outbound.spent && decide (s.line.quiet + m < 40))) (n := m + 1)
        ⟨quiet, normal, rest, by omega, by simp [below]⟩ ?_ m (by omega)
      rintro m u - ⟨still, stays, rests, count, spent⟩
      rw [State.readBit_of_quiet still stays rests (by omega), count, spent]
      dsimp only
      refine ⟨still, stays, rests, by omega, ?_⟩
      rw [Bool.and_assoc, ← Bool.decide_and]
      congr 2
      exact propext (by omega)
    obtain ⟨still, -, -, count, spent⟩ := counted
    exact ⟨still, count, spent⟩

end Sys2Proof.Machine
end

section
/-! One sample: the level filter, the phase and the bit read (R121 to R127, R130). -/

namespace Sys2Proof.Machine

set_option Elab.async false

/-! ### What a bit read and the opening of a bit leave of filter and phase (R121, R122) -/

/-- R121, R122: the line unit without its condition and counts besides: the sample clock, the filter and the phase. -/
def LineUnit.filter (l : LineUnit) : LineUnit :=
  { l.sampler with condition := .normal, driveRun := 0, restRun := 0 }

theorem LineUnit.fields_of_filter {l m : LineUnit} (h : l.filter = m.filter) :
    l.accepted = m.accepted ∧ l.filterRun = m.filterRun ∧ l.phase = m.phase ∧ l.far = m.far :=
  ⟨(congrArg LineUnit.accepted h :), (congrArg LineUnit.filterRun h :), (congrArg LineUnit.phase h :),
    (congrArg LineUnit.far h :)⟩

/-- R121, R122: a bit read moves neither the filter nor the phase. -/
theorem State.readBit_filter (s : State) : s.readBit.line.filter = s.line.filter := by
  have counted (b : Level) : (s.countDrive b).line.filter = s.line.filter := rfl
  have stuckBit (b : Level) (u : State) : (u.stuckBit b).line.filter = u.line.filter := by
    unfold State.stuckBit
    split_ifs
    · rfl
    · rfl
    · unfold State.becomeNormal
      split <;> rfl
  have becomeStuck (u : State) : u.becomeStuck.line.filter = u.line.filter := by
    unfold State.becomeStuck
    split <;> rfl
  have trackedBit (b : Level) (u : State) : (u.trackedBit b).line.filter = u.line.filter :=
    congrArg (fun l : LineUnit => { l with condition := .normal, driveRun := 0, restRun := 0 }) (u.trackedBit_sampler b)
  unfold State.readBit
  dsimp only
  cases s.line.condition with
  | stuck => exact (stuckBit _ _).trans (counted _)
  | normal =>
    dsimp only
    split_ifs
    · exact (becomeStuck _).trans (counted _)
    · exact (trackedBit _ _).trans (counted _)

/-- R122: the last frame phase closes with filter and phase as they stand. -/
theorem State.closePhase_filter (s : State) : s.closePhase.line.filter = s.line.filter := by
  unfold State.closePhase
  split <;> rfl

/-- R122: sample 1 opens its bit with filter and phase as they stand. -/
theorem State.openBit_filter (s : State) : s.openBit.line.filter = s.line.filter := by
  have started (u : State) (n : Nat) : (u.frameStart n).line.filter = u.line.filter := by
    unfold State.frameStart State.askIfSettled
    split_ifs
    · obtain ⟨-, h⟩ | ⟨_, -, h⟩ := (u.quietComesTo n).ask_cases <;> rw [h] <;> rfl
    · rfl
    · rfl
  unfold State.openBit
  cases s.line.tracking with
  | none => rfl
  | recovering => rfl
  | frame => dsimp only; split <;> rfl
  | ending =>
    obtain ⟨-, h⟩ | ⟨-, h⟩ := s.afterLastPhase_cases <;> dsimp only <;> rw [h]
    rfl
  | quiet =>
    dsimp only
    split
    · rfl
    · exact started _ _

/-! ### A sample through the filter (R121) -/

/-- R122: the sample counted in its bit time. -/
def State.moved (s : State) : State :=
  { s with line := { s.line with phase := s.line.phase % 16 + 1 } }

/-- R122: the sample counted, and where it is sample 1 its bit opened. -/
def State.opened (s : State) : State :=
  if s.moved.line.phase = 1 then s.moved.openBit else s.moved

theorem State.opened_filter (s : State) : s.opened.line.filter = s.moved.line.filter := by
  unfold State.opened
  split
  · exact s.moved.openBit_filter
  · rfl

theorem State.opened_fields (s : State) :
    s.opened.line.accepted = s.line.accepted ∧ s.opened.line.filterRun = s.line.filterRun ∧
      s.opened.line.phase = s.line.phase % 16 + 1 ∧ s.opened.line.far = s.line.far :=
  LineUnit.fields_of_filter s.opened_filter

/-- R122: any sample but sample 1 is counted alone. -/
theorem State.opened_of_later {s : State} (later : s.line.phase % 16 ≠ 0) : s.opened = s.moved :=
  if_neg fun (first : s.line.phase % 16 + 1 = 1) => later (by omega)

/-- R121, R123: the level that LRX shows at the sample. -/
def State.heard (s : State) : Level :=
  if s.opened.line.ltx = .drive ∨ s.line.far = .drive then .drive else .rest

theorem State.opened_lrx (s : State) : s.opened.lrx = s.heard := by
  obtain ⟨-, -, -, far⟩ := s.opened_fields
  rw [State.lrx, far]
  rfl

/-- R121: the sample is the third consecutive one that shows another level than the accepted one. -/
abbrev State.Accepts (s : State) : Prop :=
  s.heard ≠ s.line.accepted ∧ s.line.filterRun = 2

/-- R121, R122: the sample accepts DRIVE, and is a mark edge. -/
abbrev State.Edge (s : State) : Prop :=
  s.Accepts ∧ s.heard = .drive

/-- R121: the sample passed through the filter, where it accepts no DRIVE. -/
def State.filtered (s : State) : State :=
  { s.opened with line := { s.opened.line with
    accepted := if s.Accepts then s.heard else s.line.accepted
    filterRun := if s.heard = s.line.accepted ∨ s.Accepts then 0 else s.line.filterRun + 1 } }

theorem State.filtered_phase (s : State) : s.filtered.line.phase = s.line.phase % 16 + 1 := by
  obtain ⟨-, -, phase, -⟩ := s.opened_fields
  exact phase

/-- R121: a sample that accepts no DRIVE. -/
theorem State.filterSample_of_calm {s : State} (run : s.line.filterRun < 3) (calm : ¬s.Edge) :
    s.opened.filterSample s.opened.lrx = s.filtered := by
  obtain ⟨accepted, count, -, -⟩ := s.opened_fields
  rw [State.opened_lrx]
  unfold State.filterSample State.filtered
  rw [accepted, count]
  by_cases same : s.heard = s.line.accepted
  · have holds : ¬s.Accepts := fun ⟨other, _⟩ => other same
    rw [if_pos same, if_neg holds, if_pos (.inl same), ← accepted]
  · by_cases third : s.line.filterRun = 2
    · have accepts : s.Accepts := ⟨same, third⟩
      have rest : s.heard = .rest := by
        cases level : s.heard
        · exact absurd ⟨accepts, level⟩ calm
        · rfl
      rw [if_neg same, if_neg (by simp [third, Config.filterLength]), if_neg (by simp [rest]), if_pos accepts,
        if_pos (.inr accepts), rest]
    · have holds : ¬s.Accepts := fun ⟨_, full⟩ => third full
      rw [if_neg same, if_pos (by simp only [Config.filterLength]; omega), if_neg holds,
        if_neg (not_or.mpr ⟨same, holds⟩), ← accepted]

/-- R121, R122: a sample that accepts DRIVE is a mark edge. -/
theorem State.filterSample_of_edge {s : State} (third : s.Accepts)
    (drive : s.heard = .drive) : s.opened.filterSample s.opened.lrx = s.opened.markEdge := by
  obtain ⟨other, count⟩ := third
  obtain ⟨accepted, run, -, -⟩ := s.opened_fields
  rw [State.opened_lrx, drive]
  rw [drive] at other
  simp [State.filterSample, accepted, run, count, other, Config.filterLength]

/-! ### The mark edge (R122, R125, R127) -/

/-- R127: in QUIET the mark edge is the KEY_MARK of the quiet time held. -/
theorem State.exec_keyMark_of_quiet {s : State} (quiet : s.line.tracking = .quiet) :
    exec (.keyMark s.line.quiet) s = .next s.markEdge := by
  have same : s.afterLastPhase = s := if_neg (by simp [quiet])
  change Host.Outcome.next (s.afterLastPhase.keyMark s.line.quiet) = _
  rw [same, State.markEdge, State.keyMark, State.keyMark, if_pos quiet, if_pos (show s.resync.line.tracking = _ from quiet)]
  rfl

/-- R122, R125: out of QUIET the mark edge moves the phase alone. -/
theorem State.markEdge_of_other {s : State} (other : s.line.tracking ≠ .quiet) : s.markEdge = s.resync :=
  if_neg other

theorem State.markEdge_filter (s : State) : s.markEdge.line.filter = s.resync.line.filter := by
  unfold State.markEdge State.keyMark State.askIfSettled
  split_ifs
  · obtain ⟨-, h⟩ | ⟨_, -, h⟩ := (s.resync.resync.quietComesTo s.line.quiet).ask_cases <;> rw [h] <;> rfl
  · rfl
  · rfl

/-! ### After the filter (R122, R124) -/

/-- R122, R124: sample 10 reads the bit, and sample 16 closes the last frame phase. -/
def State.afterFilter (s : State) : State :=
  let read := if s.line.phase = 10 then s.readBit else s
  if read.line.phase = 16 then read.closePhase else read

theorem State.sample_eq (s : State) : s.sample = (s.opened.filterSample s.opened.lrx).afterFilter := rfl

/-- R122: sample 10 reads the bit. -/
theorem State.afterFilter_of_read {s : State} (read : s.line.phase = 10) : s.afterFilter = s.readBit := by
  obtain ⟨-, -, phase, -⟩ := LineUnit.fields_of_filter s.readBit_filter
  simp [State.afterFilter, read, phase]

/-- R124: sample 16 closes the last frame phase. -/
theorem State.afterFilter_of_last {s : State} (last : s.line.phase = 16) : s.afterFilter = s.closePhase := by
  simp [State.afterFilter, last]

/-- R122, R124: no other sample does anything but pass the filter. -/
theorem State.afterFilter_of_other {s : State} (unread : s.line.phase ≠ 10)
    (open_ : s.line.phase ≠ 16 ∨ s.line.tracking ≠ .ending) : s.afterFilter = s := by
  simp only [State.afterFilter, if_neg unread]
  split
  · exact if_neg (open_.resolve_left (not_not_intro ‹_›))
  · rfl

theorem State.afterFilter_filter (s : State) : s.afterFilter.line.filter = s.line.filter := by
  by_cases read : s.line.phase = 10
  · rw [State.afterFilter_of_read read, State.readBit_filter]
  · by_cases last : s.line.phase = 16
    · rw [State.afterFilter_of_last last, State.closePhase_filter]
    · rw [State.afterFilter_of_other read (.inl last)]

/-! ### A sample -/

section
variable {s : State}

/-- R121, R122: a sample that accepts no DRIVE. -/
theorem State.sample_of_calm (run : s.line.filterRun < 3) (calm : ¬s.Edge) :
    s.sample = s.filtered.afterFilter := by
  rw [State.sample_eq, State.filterSample_of_calm run calm]

/-- R122: a sample that accepts DRIVE: no bit is read at it and no last frame phase closed. -/
theorem State.sample_of_edge (third : s.Accepts) (drive : s.heard = .drive) :
    s.sample = s.opened.markEdge := by
  obtain ⟨-, -, phase, -⟩ : _ ∧ _ ∧ s.opened.markEdge.line.phase = 3 ∧ _ :=
    LineUnit.fields_of_filter s.opened.markEdge_filter
  rw [State.sample_eq, State.filterSample_of_edge third drive,
    State.afterFilter_of_other (by simp [phase]) (.inl (by simp [phase]))]

/-- R121, R122: filter and phase after a sample. -/
theorem State.sample_filter (run : s.line.filterRun < 3) :
    s.sample.line.filter = LineUnit.filter { s.line with
      accepted := if s.Accepts then s.heard else s.line.accepted
      filterRun := if s.heard = s.line.accepted ∨ s.Accepts then 0 else s.line.filterRun + 1
      phase := if s.Edge then 3 else s.line.phase % 16 + 1 } := by
  by_cases edge : s.Edge
  · obtain ⟨third, drive⟩ := id edge
    have moved := congrArg (fun l : LineUnit => { l with accepted := .drive, filterRun := 0, phase := 3 }) s.opened_filter
    rw [State.sample_of_edge third drive, State.markEdge_filter, if_pos edge, if_pos third, if_pos (.inr third), drive]
    exact moved
  · have moved := congrArg (fun l : LineUnit => { l with
        accepted := s.filtered.line.accepted, filterRun := s.filtered.line.filterRun }) s.opened_filter
    rw [State.sample_of_calm run edge, State.afterFilter_filter, if_neg edge]
    exact moved

/-- R124, R125: in the last frame phase, from its sample 10 on, a sample keeps the level driven, the outbound set and the
judgement; sample 16 closes the phase with quiet time 0, where it is no mark edge. -/
theorem State.sample_of_ending (run : s.line.filterRun < 3) (ending : s.line.tracking = .ending) (low : 10 ≤ s.line.phase)
    (high : s.line.phase ≤ 15) :
    s.sample.line.ltx = s.line.ltx ∧ s.sample.outbound = s.outbound ∧ s.sample.judgement = s.judgement ∧
      (s.line.phase = 15 ∧ ¬s.Edge → s.sample.line.tracking = .quiet ∧ s.sample.line.quiet = 0) ∧
      (s.line.phase < 15 ∨ s.Edge → s.sample.line.tracking = .ending) := by
  have counted : s.opened = s.moved := State.opened_of_later (by omega)
  by_cases accepts : s.Edge
  · have edged : s.sample = s.moved.resync := by
      obtain ⟨third, drive⟩ := id accepts
      rw [State.sample_of_edge third drive, counted]
      exact State.markEdge_of_other (by simp [State.moved, ending])
    rw [edged]
    exact ⟨rfl, rfl, rfl, fun ⟨_, calm⟩ => absurd accepts calm, fun _ => ending⟩
  · have phase : s.filtered.line.phase = s.line.phase + 1 := s.filtered_phase.trans (by omega)
    have tracking : s.filtered.line.tracking = .ending := by
      simp only [State.filtered, counted, State.moved, ending]
    obtain ⟨ltx, outbound, judgement⟩ : s.filtered.line.ltx = s.line.ltx ∧ s.filtered.outbound = s.outbound ∧
        s.filtered.judgement = s.judgement := by
      simp only [State.filtered, counted, State.moved, and_self]
    rw [State.sample_of_calm run accepts]
    by_cases last : s.line.phase = 15
    · have closed : s.filtered.afterFilter = _ :=
        (State.afterFilter_of_last (by omega)).trans (if_pos tracking)
      rw [closed]
      exact ⟨ltx, outbound, judgement, fun _ => ⟨rfl, rfl⟩, fun later => absurd later (by simp [last, accepts])⟩
    · rw [State.afterFilter_of_other (by omega) (.inl (by omega))]
      exact ⟨ltx, outbound, judgement, fun now => absurd now.1 last, fun _ => tracking⟩

end

/-- R124, R130: a bit read in a frame on a NORMAL line is counted for the drive count, and is a bit of that frame. -/
theorem State.readBit_of_frame {s : State} (frame : s.line.tracking = .frame) (normal : s.line.condition = .normal)
    (low : s.line.accepted = .drive → s.line.driveRun < 47) :
    s.readBit = (s.countDrive s.line.accepted).frameBit s.line.accepted := by
  rw [State.readBit_of_tracked normal low]
  simp only [State.trackedBit, State.countDrive, frame]

/-- Settles O29: sample 1 and the bit read by the branches of `openBit` and `readBit`; the sample by whether it accepts
DRIVE. -/
theorem sampleFilterAndPhase : Obligations.SampleFilterAndPhase := by
  unfold Obligations.SampleFilterAndPhase
  refine ⟨fun s => ⟨fun quiet idle => ?_, fun quiet sends => ?_, fun away => ?_, fun frame normal rest => ?_,
    fun frame normal drive short => ?_⟩, fun s run => ?_⟩
  · have opens : s.openBit = s.stopDriving.frameStart s.line.quiet := by
      simp only [State.openBit, quiet, idle, Option.isSome_none, Bool.false_eq_true, if_false]
    rw [exec_frameStart_of_open (by simp [quiet]), opens]
    rfl
  · have on : s.outbound.onLine.isSome = true := Option.isSome_iff_ne_none.mpr sends
    simp only [State.openBit, quiet, on, if_true]
  · have opens : s.openBit = s.stopDriving := by
      rcases away with away | away <;> simp only [State.openBit, away]
    exact opens
  · rw [State.readBit_of_frame frame normal (by simp [rest]), rest]
    rfl
  · rw [State.readBit_of_frame frame normal (fun _ => short), drive]
    rfl
  · obtain ⟨accepted, filterRun, phase, far⟩ := LineUnit.fields_of_filter (State.sample_filter run)
    refine ⟨fun third drive => ⟨fun quiet => ?_, fun other => ?_⟩,
      fun calm => ⟨fun read => ?_, fun unread open_ => ?_⟩, accepted, filterRun, phase, far, State.sample_of_ending run⟩
    · rw [State.sample_of_edge third drive]
      exact State.exec_keyMark_of_quiet (s := s.opened) quiet
    · rw [State.sample_of_edge third drive]
      exact State.markEdge_of_other (s := s.opened) other
    · have phase : s.filtered.line.phase = 10 := s.filtered_phase.trans read
      exact (State.sample_of_calm run calm).trans (State.afterFilter_of_read phase)
    · have phase := s.filtered_phase
      refine (State.sample_of_calm run calm).trans (State.afterFilter_of_other ?_ (open_.imp_left ?_))
      · rw [phase]; exact unread
      · rw [phase]; exact id

end Sys2Proof.Machine
end

section
/-! The request slots at the host port: SUBMIT, DROP and CLEAR (R104, R109, R134, R135, R137, R140, R146), and the SLOT and
ZONE reads (R28, R147, R159). -/

namespace Sys2Proof.Machine

set_option Elab.async false

/-! ### A slot set and an entry requested (R104, R134, R135) -/

/-- R135: a slot that takes another state, not FREE, keeps its request and has its changed flag set. -/
theorem Slot.become_of_other {b : Slot} {x : SlotState} (other : x ≠ b.state) (busy : x ≠ .free) (r : Option Reason) :
    b.become x r = { b with state := x, reason := r, changed := true, dropWanted := false } := by
  have differs : (x != b.state) = true := by simpa using other
  simp [Slot.become, differs, busy]

/-- R135: the changed flag after a slot took a state and a reason. -/
theorem Slot.become_changed_iff (b : Slot) (x : SlotState) (r : Option Reason) :
    (b.become x r).changed = true ↔ b.changed = true ∨ x ≠ b.state ∨ r ≠ b.reason := by
  simp [Slot.become, or_assoc]

/-- R135: one slot changed is one slot set. -/
theorem State.updateSlot_eq_set (k : Nat) (f : Slot → Slot) (s : State) :
    s.updateSlot k f = { s with slots := s.slots.set k (f (s.slotAt k)) } :=
  congrArg (fun l => { s with slots := l }) (s.updateSlot_slots_eq_set k f)

/-- R134: a slot that is not FREE is freed. -/
theorem State.updateSlot_free {s : State} {k : Nat} (busy : (s.slotAt k).state ≠ .free) :
    s.updateSlot k (Slot.become .free none) = { s with
      slots := s.slots.set k
        { state := .free, mode := none, zones := [], reason := none, changed := true, dropWanted := false } } := by
  rw [State.updateSlot_eq_set, Slot.become_free busy]

/-- R104: a request for a kind whose argument counts. -/
theorem State.request_eq_of_plain {k : EntryKind} (join : k.isJoin = false) (part : k.isCensus = false) (s : State) :
    s.request k = { s with outbound := { s.outbound with
      entries := if s.outbound.entries.any (fun e => e.kind == k) then s.outbound.entries
        else s.outbound.entries ++ [Entry.fresh k] } } := by
  have same : (fun e : Entry => e.kind.answers k) = fun e => e.kind == k :=
    funext fun e => e.kind.answers_eq_beq join part
  rw [State.request, Outbound.request_eq, same]

/-! ### SUBMIT (R137) -/

theorem StationState.refusesSubmit_iff (x : StationState) :
    x.refusesSubmit = true ↔ x = .config ∨ x = .parked ∨ x = .halted := by
  simp [StationState.refusesSubmit, or_assoc]

theorem submitZones_length {n : Byte} (few : n.toNat ≤ 4) (z1 z2 z3 z4 : Byte) :
    (submitZones n z1 z2 z3 z4).length = n.toNat := by
  simpa [submitZones] using few

theorem modeOfOctet_eq (m : Byte) :
    modeOfOctet m = if m = 0 ∨ m = 1 then some (if m = 0 then .shared else .exclusive) else none := by
  unfold modeOfOctet
  by_cases shared : m = 0
  · simp only [shared, true_or, if_true]
  · simp only [shared, false_or, if_false]

/-- R137: the fourth check of SUBMIT, and the request it accepts. -/
theorem submitRequest_eq (z : Nat) (m n z1 z2 z3 z4 : Byte) :
    submitRequest z m n z1 z2 z3 z4 =
      if (m = 0 ∨ m = 1) ∧ 1 ≤ n.toNat ∧ n.toNat ≤ 4 ∧ (∀ x ∈ submitZones n z1 z2 z3 z4, x < z) ∧
          (submitZones n z1 z2 z3 z4).Nodup then
        some (if m = 0 then .shared else .exclusive, submitZones n z1 z2 z3 z4)
      else none := by
  rw [submitRequest, modeOfOctet_eq]
  by_cases mode : m = 0 ∨ m = 1
  · simp only [if_pos mode, and_iff_right mode]
    by_cases few : n.toNat ≤ 4
    · simp [few, zonesFit, submitZones_length few, and_assoc]
    · simp [few]
  · rw [if_neg mode, if_neg fun ⟨named, _⟩ => mode named]

/-- R104, R135, R137: what an accepted SUBMIT makes of a FREE slot and the entries. -/
theorem State.accept_of_free {s : State} {k : Nat} (free : (s.slotAt k).state = .free) (m : Mode) (zones : List Nat) :
    s.accept k m zones = { s with
      slots := s.slots.set k
        { state := .queued, mode := some m, zones := zones, reason := none, changed := true, dropWanted := false }
      outbound := { s.outbound with
        entries := if s.outbound.entries.any (fun e => e.kind == .claim k) then s.outbound.entries
          else s.outbound.entries ++ [Entry.fresh (.claim k)] } } := by
  rw [State.accept, State.request_eq_of_plain rfl rfl, State.updateSlot_eq_set,
    Slot.become_of_other (x := .queued) (by simp [free]) (by decide)]

/-- Settles O9: the branches of `submit` in their order, the fourth check by `submitRequest_eq`. -/
theorem submitChecksInOrder : Obligations.SubmitChecksInOrder := by
  unfold Obligations.SubmitChecksInOrder
  intro k m n z1 z2 z3 z4 s high zones fits closed run queued entry entered
  have taken : run = .next (s.submit k m n z1 z2 z3 z4) := congrArg Host.Outcome.next (State.hostTake_of_high high _)
  have refuses : s.station.refusesSubmit = true ↔ closed := s.station.refusesSubmit_iff
  rw [taken]
  refine ⟨fun beyond => ?_, fun small shut => ?_, fun small opened busy => ?_, fun small opened free unfit => ?_,
    fun small opened free fit => ?_⟩
  · rw [State.submit, if_pos beyond]
    rfl
  · rw [State.submit, if_neg (by omega), if_pos (refuses.mpr shut)]
    rfl
  · rw [State.submit, if_neg (by omega), if_neg (mt refuses.mp opened), if_pos busy]
    rfl
  · have refused := (submitRequest_eq s.zoneCount m n z1 z2 z3 z4).trans (if_neg unfit)
    rw [State.submit, if_neg (by omega), if_neg (mt refuses.mp opened), if_neg (not_not_intro free), refused]
    rfl
  · have accepted := (submitRequest_eq s.zoneCount m n z1 z2 z3 z4).trans (if_pos fit)
    rw [State.submit, if_neg (by omega), if_neg (mt refuses.mp opened), if_neg (not_not_intro free), accepted]
    exact congrArg (fun u : State => Host.Outcome.next (u.respond .ok [])) (State.accept_of_free free _ _)

/-! ### DROP (R140) -/

/-- R109: held entries are withdrawn at once. -/
theorem Outbound.withdraw_of_held {o : Outbound} {k : EntryKind}
    (held : ∀ e ∈ o.entries.filter (fun e => e.kind == k), e.onLine = false) :
    o.withdraw k = { o with entries := o.entries.filter fun e => e.kind != k } := by
  have stays : ∀ e ∈ o.entries, (!(e.kind == k && !e.onLine)) = (e.kind != k) := fun e he => by
    by_cases same : e.kind = k
    · simp [same, held e (by simp [he, same])]
    · have other : (e.kind == k) = false := by simpa using same
      rw [bne, other, Bool.false_and]
  have unmarked : ∀ e ∈ o.entries.filter (fun e => e.kind != k),
      (if e.kind = k then { e with withdrawn := true } else e) = e := fun e he =>
    if_neg (by simpa using (List.mem_filter.mp he).2)
  rw [Outbound.withdraw, List.filter_congr stays, List.map_congr_left unmarked, List.map_id']

/-- R109: entries on the line keep their withdrawal until their outcome. -/
theorem Outbound.withdraw_of_onLine {o : Outbound} {k : EntryKind}
    (sent : ∀ e ∈ o.entries.filter (fun e => e.kind == k), e.onLine = true) :
    o.withdraw k = { o with entries := o.entries.map fun e =>
      if e.kind = k then { e with withdrawn := true } else e } := by
  have stays : ∀ e ∈ o.entries, (!(e.kind == k && !e.onLine)) = true := fun e he => by
    by_cases same : e.kind = k
    · simp [sent e (by simp [he, same])]
    · simp [same]
  rw [Outbound.withdraw, List.filter_eq_self.mpr stays]

theorem State.claimOnLine_iff (s : State) (k : Nat) :
    s.claimOnLine k = true ↔ ∃ e ∈ s.outbound.entries.filter (fun e => e.kind == .claim k), e.onLine = true := by
  simp [State.claimOnLine, and_assoc]

/-- R140: the host DROP command on a QUEUED slot. -/
theorem State.hostDrop_of_queued {s : State} {k : Byte} (small : k.toNat ≤ 7)
    (queued : (s.slotAt k.toNat).state = .queued) : s.hostDrop k = s.dropQueued k.toNat := by
  rw [State.hostDrop, if_neg (by omega), queued]

/-- R140: a QUEUED slot that is drop-wanted already. -/
theorem State.dropQueued_of_wanted {s : State} {k : Nat} (wanted : (s.slotAt k).dropWanted = true) :
    s.dropQueued k = s.respond .already [] :=
  if_pos wanted

/-- R109, R140, log 10: a QUEUED slot without a CLAIM on the line is freed, and a held CLAIM withdrawn. -/
theorem State.dropQueued_of_held {s : State} {k : Nat} (queued : (s.slotAt k).state = .queued)
    (fresh : (s.slotAt k).dropWanted = false)
    (held : ∀ e ∈ s.outbound.entries.filter (fun e => e.kind == .claim k), e.onLine = false) :
    s.dropQueued k = State.respond .ok [] { s with
      slots := s.slots.set k
        { state := .free, mode := none, zones := [], reason := none, changed := true, dropWanted := false }
      outbound := { s.outbound with entries := s.outbound.entries.filter fun e => e.kind != .claim k } } := by
  have off : s.claimOnLine k = false := Bool.eq_false_iff.mpr fun on => by
    obtain ⟨e, he, sent⟩ := (s.claimOnLine_iff k).mp on
    exact Bool.false_ne_true ((held e he).symm.trans sent)
  have busy : (s.slotAt k).state ≠ .free := by simp [queued]
  rw [State.dropQueued, fresh, off, Outbound.withdraw_of_held held]
  exact congrArg (State.respond .ok []) (State.updateSlot_free (s := { s with outbound := _ }) busy)

/-- R109, R140: the slot of a CLAIM on the line is drop-wanted, and the withdrawal waits. -/
theorem State.dropQueued_of_onLine {s : State} {k : Nat} (fresh : (s.slotAt k).dropWanted = false)
    (some_claim : s.outbound.entries.filter (fun e => e.kind == .claim k) ≠ [])
    (sent : ∀ e ∈ s.outbound.entries.filter (fun e => e.kind == .claim k), e.onLine = true) :
    s.dropQueued k = State.respond .ok [] { s with
      slots := s.slots.set k { s.slotAt k with dropWanted := true }
      outbound := { s.outbound with
        entries := s.outbound.entries.map fun e => if e.kind = .claim k then { e with withdrawn := true } else e } } := by
  have on : s.claimOnLine k = true := by
    obtain ⟨e, he⟩ := List.exists_mem_of_ne_nil _ some_claim
    exact (s.claimOnLine_iff k).mpr ⟨e, he, sent e he⟩
  rw [State.dropQueued, fresh, on, Outbound.withdraw_of_onLine sent]
  exact congrArg (State.respond .ok []) (State.updateSlot_eq_set k _ { s with outbound := _ })

/-- R140: the host DROP command on a WAITING or GRANTED slot. -/
theorem State.hostDrop_of_record {s : State} {k : Byte} (small : k.toNat ≤ 7)
    (record : (s.slotAt k.toNat).state = .waiting ∨ (s.slotAt k.toNat).state = .granted) :
    s.hostDrop k = (s.releaseSlot k.toNat).respond .ok [] := by
  rw [State.hostDrop, if_neg (by omega)]
  rcases record with x | x <;> rw [x]

/-- R104, R135, R140: what the release makes of such a slot and the entries. -/
theorem State.releaseSlot_of_record {s : State} {k : Nat}
    (record : (s.slotAt k).state = .waiting ∨ (s.slotAt k).state = .granted) :
    s.releaseSlot k = { s with
      slots := s.slots.set k
        { s.slotAt k with state := .releasing, reason := none, changed := true, dropWanted := false }
      outbound := { s.outbound with
        entries := if s.outbound.entries.any (fun e => e.kind == .drop k) then s.outbound.entries
          else s.outbound.entries ++ [Entry.fresh (.drop k)] } } := by
  have other : SlotState.releasing ≠ (s.slotAt k).state := by
    rcases record with x | x <;> simp [x]
  rw [State.releaseSlot, State.request_eq_of_plain rfl rfl, State.updateSlot_eq_set, Slot.become_of_other other (by decide)]

/-- Settles O10: the branches of `hostDrop` by the slot's state, a QUEUED slot's by the `dropQueued` lemmas. -/
theorem hostDropBySlotState : Obligations.HostDropBySlotState := by
  unfold Obligations.HostDropBySlotState
  intro k s high b claims freed marked entry entered
  have taken : exec (.drop k) s = .next (s.hostDrop k) := congrArg Host.Outcome.next (State.hostTake_of_high high _)
  rw [taken]
  refine ⟨fun beyond => ?_, fun small none_held => ?_, fun small asked => ?_, fun small queued fresh held => ?_,
    fun small queued fresh some_claim sent => ?_, fun small record => ?_⟩
  · rw [State.hostDrop, if_pos beyond]
    rfl
  · rw [State.hostDrop, if_neg (by omega)]
    rcases none_held with x | x | x <;> rw [x] <;> rfl
  · rcases asked with x | ⟨queued, wanted⟩
    · rw [State.hostDrop, if_neg (by omega), x]
      rfl
    · rw [State.hostDrop_of_queued small queued, State.dropQueued_of_wanted wanted]
      rfl
  · rw [State.hostDrop_of_queued small queued, State.dropQueued_of_held queued fresh held]
    rfl
  · rw [State.hostDrop_of_queued small queued, State.dropQueued_of_onLine fresh some_claim sent]
    rfl
  · rw [State.hostDrop_of_record small record, State.releaseSlot_of_record record]
    rfl

/-! ### CLEAR (R146) -/

theorem StationState.holdsTable_iff (x : StationState) : x.holdsTable = true ↔ x = .synced ∨ x = .halted := by
  simp [StationState.holdsTable]

/-- R134: a slot is linked while the table kept holds the own record of its tag. -/
theorem State.linked_iff (s : State) (k : Nat) :
    s.linked k = true ↔ (s.station = .synced ∨ s.station = .halted) ∧
      ∃ r ∈ s.table.requests, r.owner = s.config.station.toNat ∧ r.tag = k := by
  have found : (s.table.find s.own k).isSome = true ↔ ∃ r ∈ s.table.requests, r.owner = s.own ∧ r.tag = k := by
    rw [Option.isSome_iff_ne_none, Ne, Table.find_none_iff]
    push Not
    rfl
  rw [State.linked, Bool.and_eq_true, StationState.holdsTable_iff, found]
  rfl

/-- R146: CLEAR on a REFUSED slot, and on a LOST slot that is not linked. -/
theorem State.hostClear_of_freeable {s : State} {k : Byte} (small : k.toNat ≤ 7)
    (freeable : (s.slotAt k.toNat).state = .refused ∨ ((s.slotAt k.toNat).state = .lost ∧ ¬s.linked k.toNat = true)) :
    s.hostClear k = (s.updateSlot k.toNat (Slot.become .free none)).respond .ok [] := by
  rw [State.hostClear, if_neg (by omega)]
  rcases freeable with refused | ⟨lost, unlinked⟩
  · rw [refused]
  · rw [lost]
    exact if_neg unlinked

/-- Settles O11: the branches of `hostClear` by the slot's state, a LOST slot's by `State.linked_iff`. -/
theorem clearFreesUnlinkedSlot : Obligations.ClearFreesUnlinkedSlot := by
  unfold Obligations.ClearFreesUnlinkedSlot
  intro k s high b linked
  have links : s.linked k.toNat = true ↔ linked := s.linked_iff k.toNat
  have taken : exec (.clear k) s = .next (s.hostClear k) := congrArg Host.Outcome.next (State.hostTake_of_high high _)
  rw [taken]
  refine ⟨fun beyond => ?_, fun small clears => ?_, fun small lost link => ?_, fun small kept => ?_⟩
  · rw [State.hostClear, if_pos beyond]
    rfl
  · have busy : b.state ≠ .free := by
      rcases clears with refused | ⟨lost, -⟩
      · simp [refused]
      · simp [lost]
    rw [State.hostClear_of_freeable small (clears.imp_right fun ⟨lost, unlinked⟩ => ⟨lost, mt links.mp unlinked⟩),
      State.updateSlot_free busy]
    rfl
  · rw [State.hostClear, if_neg (by omega), lost]
    exact congrArg Host.Outcome.next (if_pos (links.mpr link))
  · rw [State.hostClear, if_neg (by omega)]
    rcases kept with x | x | x | x | x <;> rw [x] <;> rfl

/-! ### The SLOT and ZONE reads (R28, R147, R159) -/

/-- R159: the zone octets of a SLOT response: the zones, then 0xFF to the four. -/
theorem slotOctets_of_few {b : Slot} (few : b.zones.length ≤ 4) :
    slotOctets b = [b.state.code, reasonCode b.reason, modeOctet b.mode, octet b.zones.length] ++
      b.zones.map octet ++ List.replicate (4 - b.zones.length) 0xFF := by
  have filled : (b.zones.map octet ++ List.replicate 4 (0xFF : Byte)).take 4 =
      b.zones.map octet ++ List.replicate (4 - b.zones.length) 0xFF := by
    rw [List.take_append, List.take_of_length_le (by simpa using few), List.take_replicate, List.length_map,
      Nat.min_eq_left (Nat.sub_le _ _)]
  rw [List.append_assoc, ← filled]
  rfl

/-- R159: the two octets of a record in a ZONE response. -/
theorem refOctets_eq (r : RecordRef) :
    refOctets r = [BitVec.ofNat 8 (8 * r.owner + r.tag), if r.mode = .exclusive then 0x80 else 0x00] := by
  cases x : r.mode <;> simp [refOctets, x, Mode.bit, octet]

/-- R28: in SYNCED and HALTED the ZONE read shows the table's entry. -/
theorem State.shownZone_of_held {s : State} (held : s.station = .synced ∨ s.station = .halted) (z : Nat) :
    s.shownZone z = s.table.zoneAt z :=
  if_pos ((StationState.holdsTable_iff _).mpr held)

/-- R28: in every other state it shows an empty entry. -/
theorem State.shownZone_of_away {s : State} (away : ¬(s.station = .synced ∨ s.station = .halted)) (z : Nat) :
    s.shownZone z = .empty :=
  if_neg (mt (StationState.holdsTable_iff _).mp away)

/-- Settles O12: the fields of `Slot.become`, the code tables by evaluation, and the branches of the two reads. -/
theorem slotFlagAndReads : Obligations.SlotFlagAndReads := by
  unfold Obligations.SlotFlagAndReads
  refine ⟨fun b x r => ⟨rfl, rfl, rfl, b.become_changed_iff x r, fun free => ⟨if_pos free, if_pos free⟩,
    fun busy => ⟨if_neg busy, if_neg busy⟩⟩, rfl, rfl, rfl, fun k s high => ?_, fun z s high => ?_⟩
  · intro b mode data
    have taken : exec (.slot k) s = .next (s.readSlot k) := congrArg Host.Outcome.next (State.hostTake_of_high high _)
    rw [taken]
    refine ⟨fun beyond => ?_, fun small few => ?_⟩
    · rw [State.readSlot, if_pos beyond]
      rfl
    · have shown : (.ok : Answer).code :: slotOctets b = data := congrArg (List.cons 1) (slotOctets_of_few few)
      rw [State.readSlot, if_neg (by omega), State.updateSlot_eq_set, ← shown]
      rfl
  · intro e pair data
    have shown : (.ok : Answer).code :: zoneOctets e = data := by
      rw [zoneOctets, show refOctets = pair from funext refOctets_eq]
      rfl
    have taken : exec (.zone z) s = .next (s.readZone z) := congrArg Host.Outcome.next (State.hostTake_of_high high _)
    rw [taken]
    refine ⟨fun beyond => ?_, fun inside held => ?_, fun inside not_synced not_halted => ?_⟩
    · rw [State.readZone, State.zoneCount, if_pos beyond]
      rfl
    · rw [State.readZone, State.zoneCount, if_neg (Nat.not_le.mpr inside), State.shownZone_of_held held, ← shown]
      rfl
    · rw [State.readZone, State.zoneCount, if_neg (Nat.not_le.mpr inside),
        State.shownZone_of_away (not_or.mpr ⟨not_synced, not_halted⟩)]
      rfl

end Sys2Proof.Machine
end

section
/-! The host port at its pins, and what it answers (R151 to R154, R158, R159, R179). -/

namespace Sys2Proof.Machine

/-- Settles O1: the queue's front is what `step` looks at. -/
theorem stepRunsFrontCommand : Obligations.StepRunsFrontCommand := by
  unfold Obligations.StepRunsFrontCommand
  intro c rest s
  rfl

/-! ### The octets of a transaction (R151, R152, R159) -/

/-- R159: the codes above IDENT are unknown. -/
theorem hostCommand_of_large {code : Nat} (large : 14 ≤ code) (operands : List Byte) :
    hostCommand code operands = none := by
  obtain ⟨n, rfl⟩ := Nat.exists_eq_add_of_le' large
  rfl

/-- R152, R159: a command code makes a command of its own operand count only. -/
theorem operandCount_of_hostCommand {code : Nat} {operands : List Byte} {c : Instr}
    (known : hostCommand code operands = some c) : operandCount code = some operands.length := by
  by_cases large : 14 ≤ code
  · rw [hostCommand_of_large large] at known
    cases known
  have counts : code = 0 ∨ (code = 2 ∨ code = 8 ∨ code = 9 ∨ code = 11 ∨ code = 12 ∨ code = 13) ∨
      (code = 4 ∨ code = 5 ∨ code = 6 ∨ code = 7 ∨ code = 10) ∨ code = 3 ∨ code = 1 := by omega
  obtain rfl | bare | one | rfl | rfl := counts
  · cases known
  · rcases operands with _ | ⟨_, _⟩
    · rcases bare with rfl | rfl | rfl | rfl | rfl | rfl <;> rfl
    · rcases bare with rfl | rfl | rfl | rfl | rfl | rfl <;> cases known
  · rcases operands with _ | ⟨_, _ | ⟨_, _⟩⟩
    · rcases one with rfl | rfl | rfl | rfl | rfl <;> cases known
    · rcases one with rfl | rfl | rfl | rfl | rfl <;> rfl
    · rcases one with rfl | rfl | rfl | rfl | rfl <;> cases known
  · rcases operands with _ | ⟨_, _ | ⟨_, _ | ⟨_, _ | ⟨_, _ | ⟨_, _ | ⟨_, _ | ⟨_, _ | ⟨_, _⟩⟩⟩⟩⟩⟩⟩⟩
    case cons.cons.cons.cons.cons.cons.cons.nil => rfl
    all_goals cases known
  · rcases operands with _ | ⟨_, _ | ⟨_, _ | ⟨_, _ | ⟨_, _ | ⟨_, _ | ⟨_, _ | ⟨_, _ | ⟨_, _ | ⟨_, _ | ⟨_, _⟩⟩⟩⟩⟩⟩⟩⟩⟩⟩
    case cons.cons.cons.cons.cons.cons.cons.cons.cons.nil => rfl
    all_goals cases known

/-- R159: the host sends a command octet and just the operand octets it declares, which make the command. -/
theorem hostOctets_eq_some {c : Instr} {octets : List Byte} (fits : c.wellFormed = true)
    (sent : hostOctets c = some octets) :
    ∃ command operands, octets = command :: operands ∧ operands.length = declaredCount command ∧
      (hostCommand (commandCode command) operands).getD (.unknownCommand command operands) = c := by
  cases c
  case unknownCommand command operands =>
    obtain rfl := Option.some.inj sent
    obtain ⟨count, unknown⟩ : operands.length = declaredCount command ∧
        operandCount (commandCode command) ≠ some (declaredCount command) := by
      simpa [Instr.wellFormed] using fits
    refine ⟨command, operands, rfl, count, ?_⟩
    cases known : hostCommand (commandCode command) operands with
    | none => rfl
    | some d => exact absurd (count ▸ operandCount_of_hostCommand known) unknown
  all_goals cases sent
  all_goals exact ⟨_, _, rfl, by simp [declaredCount], rfl⟩

/-- R151, R152: octets after the declared operands are ignored. -/
theorem transactionCommand_of_complete {command : Byte} {operands : List Byte}
    (count : operands.length = declaredCount command) (extra : List Byte) (bits : List Bool) :
    transactionCommand (command :: operands ++ extra) bits =
      (hostCommand (commandCode command) operands).getD (.unknownCommand command operands) := by
  have enough : ¬(operands ++ extra).length < declaredCount command := by simp [← count]
  rw [List.cons_append, transactionCommand, if_neg enough, ← count, List.take_left]

/-- R152: a transaction cut short in its command octet or operands is not taken. -/
theorem transactionCommand_of_cut {command : Byte} {operands : List Byte}
    (count : operands.length = declaredCount command) (bits : List Bool) {n : Nat}
    (cut : n < (command :: operands).length) :
    transactionCommand ((command :: operands).take n) bits = .transactionNotTaken ((command :: operands).take n) bits := by
  cases n with
  | zero => rfl
  | succ n =>
    rw [List.length_cons] at cut
    exact if_pos (by rw [List.length_take]; omega)

/-- R152: octets that complete no command have no beginning that completes one. -/
theorem commandComplete_of_append {first more : List Byte} (short : commandComplete (first ++ more) = false) :
    commandComplete first = false := by
  cases first with
  | nil => rfl
  | cons command operands =>
    simp only [commandComplete, List.cons_append, List.length_append, decide_eq_false_iff_not] at short ⊢
    omega

/-- R152: a command is complete with its last octet and not before. -/
theorem commandComplete_at_last {command : Byte} {operands : List Byte}
    (count : operands.length = declaredCount command) :
    ∃ first last, command :: operands = first ++ [last] ∧ commandComplete first = false ∧
      commandComplete (first ++ [last]) = true := by
  obtain nothing | ⟨first, last, split⟩ := List.eq_nil_or_concat (command :: operands)
  · cases nothing
  rw [List.concat_eq_append] at split
  refine ⟨first, last, split, ?_, ?_⟩
  · cases first with
    | nil => rfl
    | cons c rest =>
      obtain ⟨rfl, rfl⟩ := List.cons.inj split
      simp [commandComplete, ← count]
  · rw [← split]
    simp [commandComplete, count]

/-! ### The answer to a command (R153, R158) -/

/-- R158: a command is answered OK, with data octets, or it is refused without any and changes only the port. -/
def State.Answers (s t : State) : Prop :=
  (∃ (u : State) (data : List Byte), t = u.respond .ok data) ∨ ∃ a, t = s.respond a []

theorem State.Answers.ok (s u : State) (data : List Byte) : s.Answers (u.respond .ok data) :=
  .inl ⟨u, data, rfl⟩

theorem State.Answers.refused (s : State) (a : Answer) : s.Answers (s.respond a []) :=
  .inr ⟨a, rfl⟩

theorem State.answers_configure (s : State) (c : ConfigSet) : s.Answers (s.configure c) := by
  unfold State.configure
  split
  · exact .ok _ _ _
  · exact .refused _ _

theorem State.answers_submit (s : State) (k m n z1 z2 z3 z4 : Byte) : s.Answers (s.submit k m n z1 z2 z3 z4) := by
  unfold State.submit
  split_ifs
  · exact .refused _ _
  · exact .refused _ _
  · exact .refused _ _
  · split
    · exact .refused _ _
    · exact .ok _ _ _

theorem State.answers_dropQueued (s : State) (k : Nat) : s.Answers (s.dropQueued k) := by
  unfold State.dropQueued
  dsimp only
  split_ifs
  · exact .refused _ _
  · exact .ok _ _ _
  · exact .ok _ _ _

theorem State.answers_hostDrop (s : State) (k : Byte) : s.Answers (s.hostDrop k) := by
  unfold State.hostDrop
  split
  · exact .refused _ _
  · cases (s.slotAt k.toNat).state with
    | queued => exact s.answers_dropQueued _
    | waiting => exact .ok _ _ _
    | granted => exact .ok _ _ _
    | _ => exact .refused _ _

theorem State.answers_hostClear (s : State) (k : Byte) : s.Answers (s.hostClear k) := by
  unfold State.hostClear
  split
  · exact .refused _ _
  · cases (s.slotAt k.toNat).state with
    | refused => exact .ok _ _ _
    | lost =>
      dsimp only
      split
      · exact .refused _ _
      · exact .ok _ _ _
    | _ => exact .refused _ _

theorem State.answers_readSlot (s : State) (k : Byte) : s.Answers (s.readSlot k) := by
  unfold State.readSlot
  split
  · exact .refused _ _
  · exact .ok _ _ _

theorem State.answers_readZone (s : State) (z : Byte) : s.Answers (s.readZone z) := by
  unfold State.readZone
  split
  · exact .refused _ _
  · exact .ok _ _ _

theorem State.answers_acknowledge (s : State) (a : Byte) : s.Answers (s.acknowledge a) := by
  unfold State.acknowledge
  split
  · exact .refused _ _
  · split
    · exact .ok _ _ _
    · exact .refused _ _

theorem State.answers_hostLeave (s : State) : s.Answers s.hostLeave := by
  unfold State.hostLeave
  split_ifs
  · exact .refused _ _
  · exact .ok _ _ _
  · exact .refused _ _

theorem State.answers_hostRestart (s : State) : s.Answers s.hostRestart := by
  unfold State.hostRestart
  split
  · exact .ok _ _ _
  · exact .refused _ _

theorem State.Answers.hostTake {s : State} {act : State → State} (high : s.resetnLow = false)
    (answers : s.Answers (act s)) : s.Answers (s.hostTake act) := by
  rwa [State.hostTake_of_high high]

/-- R158: every host command but START, and an unknown one. -/
theorem State.perform_answers {c : Instr} (host : hostCommandOf c = true ∨ ∃ k o, c = .unknownCommand k o)
    (other : c ≠ .start) {s : State} (high : s.resetnLow = false) : s.Answers (s.perform c) := by
  obtain known | ⟨k, o, rfl⟩ := host
  · cases c
    case configure => exact .hostTake high (s.answers_configure _)
    case start => exact absurd rfl other
    case submit => exact .hostTake high (s.answers_submit _ _ _ _ _ _ _)
    case drop => exact .hostTake high (s.answers_hostDrop _)
    case clear => exact .hostTake high (s.answers_hostClear _)
    case slot => exact .hostTake high (s.answers_readSlot _)
    case zone => exact .hostTake high (s.answers_readZone _)
    case acknowledge => exact .hostTake high (s.answers_acknowledge _)
    case leave => exact .hostTake high s.answers_hostLeave
    case restart => exact .hostTake high s.answers_hostRestart
    case roster | attention | ident => exact .hostTake high (.ok _ _ _)
    all_goals exact absurd known Bool.false_ne_true
  · exact .hostTake high (.refused _ _)

/-- R158, R172: START is answered one data octet, OK or refused. -/
theorem State.start_answers (s : State) :
    (∃ (u : State) (x : Byte), s.start = u.respond .ok [x]) ∨ ∃ a x, s.start = s.respond a [x] := by
  unfold State.start
  split_ifs
  · exact .inl ⟨_, _, rfl⟩
  · exact .inr ⟨_, _, rfl⟩
  · exact .inr ⟨_, _, rfl⟩

/-- Settles O6: `State.start_answers` for START and `State.perform_answers` for every other command. -/
theorem refusedCommandChangesNothing : Obligations.RefusedCommandChangesNothing := by
  unfold Obligations.RefusedCommandChangesNothing
  intro c s host high
  by_cases start : c = .start
  · subst start
    have taken : exec .start s = .next s.start := congrArg Host.Outcome.next (State.hostTake_of_high high _)
    rw [taken]
    obtain ⟨u, x, run⟩ | ⟨a, x, run⟩ := s.start_answers <;> rw [run]
    · exact ⟨_, .ok, [x], rfl, rfl, fun _ => rfl, fun no => absurd rfl no, fun no => absurd rfl no⟩
    · exact ⟨_, a, [x], rfl, rfl, fun _ => rfl, fun _ no => absurd rfl no, fun _ => rfl⟩
  · rw [exec_eq_perform]
    obtain ⟨u, data, run⟩ | ⟨a, run⟩ := State.perform_answers host start high <;> rw [run]
    · exact ⟨_, .ok, data, rfl, rfl, fun is => absurd is start, fun no => absurd rfl no, fun no => absurd rfl no⟩
    · exact ⟨_, a, [], rfl, rfl, fun is => absurd is start, fun _ _ => rfl, fun _ => rfl⟩

/-! ### Transactions without effect (R152, R154, R179) -/

/-- R154: with RESETN low the port takes no command. -/
theorem State.hostTake_of_low {s : State} (low : s.resetnLow = true) (act : State → State) : s.hostTake act = s :=
  if_pos low

/-- R154: while RESETN is low no transaction has an effect. -/
theorem State.perform_of_low {c : Instr} (host : transactionOf c = true) {s : State} (low : s.resetnLow = true) :
    s.perform c = s := by
  cases c
  case configure | start | submit | drop | clear | slot | zone | roster | attention | acknowledge | leave | restart
      | ident | unknownCommand | transactionNotTaken => exact State.hostTake_of_low low _
  all_goals exact absurd host Bool.false_ne_true

theorem transactionOf_iff (c : Instr) : transactionOf c = true ↔
    hostCommandOf c = true ∨ (∃ k o, c = .unknownCommand k o) ∨ ∃ o b, c = .transactionNotTaken o b := by
  cases c <;> simp [transactionOf, hostCommandOf]

theorem State.sdo_of_low {s : State} (low : s.resetnLow = true) : s.sdo = none :=
  if_pos low

theorem State.atnLow_of_low {s : State} (low : s.resetnLow = true) : s.atnLow = false := by
  rw [State.atnLow, low]
  rfl

/-- Settles O7: the two transactions without a command with RESETN high, and `State.perform_of_low` with it low. -/
theorem transactionsWithoutEffect : Obligations.TransactionsWithoutEffect := by
  unfold Obligations.TransactionsWithoutEffect
  refine fun s => ⟨fun high c operands octets bits => ⟨?_, ?_⟩, fun low => ⟨s.sdo_of_low low, s.atnLow_of_low low,
    fun c transaction => ?_⟩⟩
  · exact congrArg Host.Outcome.next (State.hostTake_of_high high (State.answerUnknown c operands))
  · exact congrArg Host.Outcome.next (State.hostTake_of_high high State.breakTransaction)
  · rw [exec_eq_perform, State.perform_of_low ((transactionOf_iff c).mpr transaction) low]

/-! ### The transaction under way (R153) -/

/-- The station in the midst of a transaction whose command is not taken yet. -/
def State.receives (octets : List Byte) (bits : List Bool) (s : State) : State :=
  { s with port := .receiving octets bits }

theorem State.settleDropWanted_receives (octets : List Byte) (bits : List Bool) (k : EntryKind) (s : State) :
    (s.receives octets bits).settleDropWanted k = (s.settleDropWanted k).receives octets bits := by
  cases k with
  | claim tag =>
    change (if (s.slotAt tag).dropWanted then _ else _) = State.receives _ _ (if (s.slotAt tag).dropWanted then _ else _)
    split <;> rfl
  | _ => rfl

/-- R175: the attempt on the line ends the same whatever the port has received. -/
theorem State.endAttempt_receives (octets : List Byte) (bits : List Bool) (counted : Bool) (s : State) :
    (s.receives octets bits).endAttempt counted = (s.endAttempt counted).receives octets bits := by
  have same : (s.receives octets bits).outbound = s.outbound := rfl
  obtain ⟨idle, x⟩ | ⟨e, sent, waits, x⟩ | ⟨e, sent, stays, x⟩ := s.endAttempt_cases counted <;> rw [x]
  · simp only [State.endAttempt, same, idle]
  · rw [← State.settleDropWanted_receives]
    simp only [State.endAttempt, same, sent, waits, if_true]
    rfl
  · simp only [State.endAttempt, same, sent, stays, if_false, Bool.false_eq_true]
    rfl

/-- R175: what a RESTART answers and leaves does not rest on the octets it came in. -/
theorem State.hostRestart_receives (octets : List Byte) (bits : List Bool) (s : State) :
    (s.receives octets bits).hostRestart = s.hostRestart := by
  have restart : (s.receives octets bits).restartNow = s.restartNow.receives octets bits := by
    rw [State.restartNow, State.endAttempt_receives]
    rfl
  unfold State.hostRestart
  rw [restart]
  rfl

theorem State.hostTake_receives {s : State} (high : s.resetnLow = false) {act : State → State} {octets : List Byte}
    {bits : List Bool} (same : act (s.receives octets bits) = act s) :
    (s.receives octets bits).hostTake act = s.hostTake act := by
  rw [State.hostTake_of_high (s := s.receives octets bits) high, State.hostTake_of_high high, same]

/-- R153: the answer takes the place of what the port received, so a command has one meaning at the queue and at the
pins. -/
theorem State.perform_receives {c : Instr} (host : hostCommandOf c = true ∨ ∃ k o, c = .unknownCommand k o) {s : State}
    (high : s.resetnLow = false) (octets : List Byte) (bits : List Bool) :
    (s.receives octets bits).perform c = s.perform c := by
  obtain known | ⟨k, o, rfl⟩ := host
  · cases c
    case restart => exact State.hostTake_receives high (s.hostRestart_receives octets bits)
    case configure | start | submit | drop | clear | slot | zone | roster | attention | acknowledge | leave | ident =>
      exact State.hostTake_receives high rfl
    all_goals exact absurd known Bool.false_ne_true
  · exact State.hostTake_receives high rfl

theorem hostCommandOf_of_hostOctets {c : Instr} {octets : List Byte} (sent : hostOctets c = some octets) :
    hostCommandOf c = true ∨ ∃ k o, c = .unknownCommand k o := by
  cases c
  case unknownCommand k o => exact .inr ⟨k, o, rfl⟩
  all_goals cases sent
  all_goals exact .inl rfl

/-! ### A command clocked in (R151, R152) -/

/-- One period of SCK with this level of SDI. -/
def State.clockBit (s : State) (b : Bool) : State :=
  (s.sckRise b).sckFall

theorem State.sckFall_of_receiving {s : State} {octets : List Byte} {bits : List Bool}
    (port : s.port = .receiving octets bits) : s.sckFall = s := by
  rw [State.sckFall, port]
  exact ite_self s

theorem State.clockBit_within {s : State} (high : s.resetnLow = false) (octets : List Byte) {bits : List Bool}
    (short : bits.length + 1 < 8) (b : Bool) :
    (s.receives octets bits).clockBit b = s.receives octets (bits ++ [b]) := by
  have rise : (s.receives octets bits).sckRise b = s.receives octets (bits ++ [b]) := by
    simp [State.sckRise, State.receives, high, short]
  rw [State.clockBit, rise, State.sckFall_of_receiving rfl]

theorem State.clockBits_within {s : State} (high : s.resetnLow = false) (octets : List Byte) (bits more : List Bool)
    (short : bits.length + more.length < 8) :
    more.foldl State.clockBit (s.receives octets bits) = s.receives octets (bits ++ more) := by
  induction more generalizing bits with
  | nil => rw [List.append_nil, List.foldl_nil]
  | cons b more ih =>
    rw [List.length_cons] at short
    rw [List.foldl_cons, State.clockBit_within high octets (by omega), ih (bits ++ [b]) (by simp; omega), List.append_assoc,
      List.singleton_append]

/-- R151, R152: the eighth bit completes an octet, and with it the command where the octet is the last one declared. -/
theorem State.sckRise_eighth {s : State} (high : s.resetnLow = false) (octets : List Byte) {bits : List Bool}
    (seven : bits.length = 7) (b : Bool) :
    (s.receives octets bits).sckRise b =
      if commandComplete (octets ++ [octetOfBits (bits ++ [b])]) then
        (s.receives octets bits).perform (transactionCommand (octets ++ [octetOfBits (bits ++ [b])]) [])
      else s.receives (octets ++ [octetOfBits (bits ++ [b])]) [] := by
  have full : ¬bits.length + 1 < 8 := by omega
  rw [State.sckRise, if_neg (by simp [State.receives, high])]
  exact if_neg full

/-- R151, R152: the eight bits of an octet clocked in between octets. -/
theorem State.clockOctet {s : State} (high : s.resetnLow = false) (octets : List Byte) (b : Byte) :
    (octetBits b).foldl State.clockBit (s.receives octets []) =
      if commandComplete (octets ++ [b]) then
        ((s.receives octets ((octetBits b).take 7)).perform (transactionCommand (octets ++ [b]) [])).sckFall
      else s.receives (octets ++ [b]) [] := by
  have bits : octetBits b = (octetBits b).take 7 ++ [b.getLsbD 0] := octetBits_take_succ b (k := 7) (by omega)
  have octet : octetOfBits ((octetBits b).take 7 ++ [b.getLsbD 0]) = b := bits ▸ octetOfBits_octetBits b
  have first : ((octetBits b).take 7).foldl State.clockBit (s.receives octets []) =
      s.receives octets ((octetBits b).take 7) := State.clockBits_within high octets [] _ (by simp)
  conv_lhs => rw [bits]
  rw [List.foldl_append, first, List.foldl_cons, List.foldl_nil, State.clockBit,
    State.sckRise_eighth high octets (by simp), octet]
  split
  · rfl
  · exact State.sckFall_of_receiving rfl

/-- R151: octets that complete no command are kept. -/
theorem State.clockOctets_within {s : State} (high : s.resetnLow = false) (octets : List Byte)
    (short : commandComplete octets = false) :
    (octets.map octetBits).flatten.foldl State.clockBit (s.receives [] []) = s.receives octets [] := by
  induction octets using List.reverseRecOn with
  | nil => rfl
  | append_singleton first b ih =>
    rw [List.map_append, List.flatten_append, List.foldl_append, ih (commandComplete_of_append short), List.map_singleton,
      List.flatten_singleton, State.clockOctet high, short, if_neg Bool.false_ne_true]

/-- R152, R153: a command clocked in whole is taken as from the queue; the fall of SCK after it is the first. -/
theorem State.clockCommand {s : State} (high : s.resetnLow = false) {c : Instr} {octets : List Byte}
    (fits : c.wellFormed = true) (sent : hostOctets c = some octets) :
    (octets.map octetBits).flatten.foldl State.clockBit (s.receives [] []) = (s.perform c).sckFall := by
  obtain ⟨command, operands, rfl, count, made⟩ := hostOctets_eq_some fits sent
  obtain ⟨first, last, split, short, complete⟩ := commandComplete_at_last count
  have taken : transactionCommand (first ++ [last]) [] = c := by
    rw [← split, ← List.append_nil (command :: operands), transactionCommand_of_complete count, made]
  rw [split, List.map_append, List.flatten_append, List.foldl_append, State.clockOctets_within high first short,
    List.map_singleton, List.flatten_singleton, State.clockOctet high, if_pos complete, taken,
    State.perform_receives (hostCommandOf_of_hostOctets sent) high]

/-! ### The edges without effect, and SDO (R151, R153, R154) -/

theorem State.edges_of_low {s : State} (low : s.resetnLow = true) :
    s.csnFall = s ∧ s.csnRise = s ∧ s.sckFall = s ∧ ∀ b, s.sckRise b = s :=
  ⟨if_pos low, if_pos low, if_pos low, fun _ => if_pos low⟩

theorem State.csnRise_of_high {s : State} (high : s.resetnLow = false) : s.csnRise = { s with port := .idle } := by
  rw [State.csnRise, if_neg (by simp [high])]
  cases port : s.port with
  | idle => exact congrArg (fun p => { s with port := p }) port
  | receiving octets bits => exact State.hostTake_of_high high State.breakTransaction
  | kept response n => rfl
  | ignoring => rfl

theorem State.csnFall_of_high {s : State} (high : s.resetnLow = false) : s.csnFall = s.receives [] [] := by
  exact if_neg (by simp [high])

/-- R153: SDI is ignored while the response is kept, and in a transaction that takes no command. -/
theorem State.sckRise_of_deaf {s : State} (deaf : ∀ octets bits, s.port ≠ .receiving octets bits) (b : Bool) :
    s.sckRise b = s := by
  rw [State.sckRise]
  cases port : s.port with
  | receiving octets bits => exact absurd port (deaf octets bits)
  | _ => exact ite_self s

/-- R151: each fall of SCK counts one bit of the kept response. -/
theorem State.sckFall_iterate {s : State} (high : s.resetnLow = false) {response : List Byte} {m : Nat}
    (port : s.port = .kept response m) (n : Nat) :
    State.sckFall^[n] s = { s with port := .kept response (m + n) } := by
  induction n with
  | zero => rw [Function.iterate_zero_apply, Nat.add_zero, ← port]
  | succ n ih =>
    rw [Function.iterate_succ_apply', ih, State.sckFall, high, if_neg Bool.false_ne_true]
    rfl

/-- Settles O5: the octets by `hostOctets_eq_some`, the bits by `State.clockCommand`, SDO by `State.sckFall_iterate`. -/
theorem hostOctetsDecodeToTheirCommand : Obligations.HostOctetsDecodeToTheirCommand := by
  unfold Obligations.HostOctetsDecodeToTheirCommand
  refine ⟨fun c octets extra bits fits sent => ?_, fun s response => ⟨State.edges_of_low, fun high => ⟨fun kept => ?_,
    fun away => ?_, fun octets bits port => ?_, State.csnRise_of_high high, State.csnFall_of_high high⟩⟩⟩
  · obtain ⟨command, operands, rfl, count, made⟩ := hostOctets_eq_some fits sent
    refine ⟨(transactionCommand_of_complete count extra bits).trans made,
      fun n cut => transactionCommand_of_cut count bits cut,
      fun s _ high => ⟨s.perform c, exec_eq_perform c s, ?_⟩⟩
    rw [State.csnFall_of_high high]
    exact State.clockCommand high fits sent
  · have shown : s.sdo = some false := by rw [State.sdo, high, kept]; rfl
    refine ⟨shown, State.sckRise_of_deaf (by simp [kept]), fun n => ?_⟩
    rw [State.sckFall_iterate high kept, Nat.zero_add]
    exact ⟨if_neg (by simp [high]), State.sckRise_of_deaf (by simp)⟩
  · refine ⟨?_, State.sckRise_of_deaf ?_, ?_⟩
    · rcases away with port | port <;> rw [State.sdo, high, port] <;> rfl
    · rcases away with port | port <;> simp [port]
    · rcases away with port | port <;> rw [State.sckFall, high, port] <;> rfl
  · refine ⟨?_, State.sckFall_of_receiving port⟩
    rw [State.sdo, high, port]
    rfl

end Sys2Proof.Machine
end

section
/-! CONFIGURE and START (R65, R155, R156, R172). -/

namespace Sys2Proof.Machine

/-- R172: START's checks, in order. -/
def ConfigSet.checks (c : ConfigSet) : List Bool :=
  [decide (4 ≤ c.rosterSlots.toNat ∧ c.rosterSlots.toNat ≤ 32), decide (c.station.toNat < c.rosterSlots.toNat),
   decide (8 ≤ c.zoneCount.toNat ∧ c.zoneCount.toNat ≤ 64), decide (2 ≤ c.evict.toNat ∧ c.evict.toNat ≤ 8),
   decide (3 ≤ c.retry.toNat ∧ c.retry.toNat ≤ 15 ∧ c.evict.toNat < c.retry.toNat),
   decide (1 ≤ c.guardCode.toNat ∧ c.guardCode.toNat ≤ 63 ∧ 2 * c.guardCode.toNat ≤ c.leaseCode.toNat)]

theorem findIdx?_failing_cons (p : Prop) [Decidable p] (l : List Bool) :
    ((decide p :: l).findIdx? fun b => !b) = if p then (l.findIdx? fun b => !b).map (· + 1) else some 0 := by
  by_cases h : p <;> simp [List.findIdx?_cons, h]

/-- R172: the check that fails is the first of the list, counted from 1. -/
theorem ConfigSet.failedCheck_eq (c : ConfigSet) :
    c.failedCheck = ((c.checks.findIdx? fun b => !b).map (· + 1)).getD 0 := by
  simp only [ConfigSet.failedCheck, ConfigSet.checks, findIdx?_failing_cons, ite_not, and_assoc]
  split_ifs <;> rfl

theorem State.start_of_away {s : State} (away : s.station ≠ .config) : s.start = s.respond .wrongState [0] :=
  if_neg away

theorem State.start_of_failed {s : State} (config : s.station = .config) (failed : s.config.failedCheck ≠ 0) :
    s.start = s.respond .badConfig [octet s.config.failedCheck] := by
  rw [State.start, if_pos config, if_neg failed]

theorem State.start_of_passed {s : State} (config : s.station = .config) (passed : s.config.failedCheck = 0) :
    s.start = s.begin.respond .ok [0] := by
  rw [State.start, if_pos config, if_pos passed]

/-- Settles O8: the branches of CONFIGURE and START, the check that fails by `ConfigSet.failedCheck_eq`. -/
theorem configureThenStart : Obligations.ConfigureThenStart := by
  unfold Obligations.ConfigureThenStart
  refine ⟨fun n r z q l g e t m s high => ?_, fun s high => ?_⟩
  · have taken : exec (.configure n r z q l g e t m) s = .next (s.configure (.written n r z q l g e t m)) :=
      congrArg Host.Outcome.next (State.hostTake_of_high high _)
    rw [taken]
    exact ⟨fun config => congrArg Host.Outcome.next (if_pos config), fun away => congrArg Host.Outcome.next (if_neg away)⟩
  · intro c checks durations
    have taken : exec .start s = .next s.start := congrArg Host.Outcome.next (State.hostTake_of_high high _)
    have number : s.config.failedCheck = ((checks.findIdx? fun b => !b).map (· + 1)).getD 0 := s.config.failedCheck_eq
    rw [taken]
    refine ⟨fun away => ?_, fun k config first => ?_, fun config none_fails => ?_⟩
    · rw [State.start_of_away away]
      rfl
    · have number : s.config.failedCheck = k + 1 := number.trans (by rw [first]; rfl)
      rw [State.start_of_failed config (by omega), number]
      rfl
    · rw [State.start_of_passed config (number.trans (by rw [none_fails]; rfl))]
      rfl

end Sys2Proof.Machine
end

section
/-! The ROSTER read and IDENT (R63, R157, R159). -/

namespace Sys2Proof.Machine

/-- R159: in a station bitmap station `k` is bit `k % 8` of octet `k / 8`. -/
theorem bitmapOctets_getLsbD (a : StationSet) {k : Nat} (small : k < 32) :
    ((bitmapOctets a).getD (k / 8) 0).getLsbD (k % 8) = a.contains k := by
  have octets : (bitmapOctets a).getD (k / 8) 0 = bitmapOctet a (k / 8) := by
    have quotient : k / 8 = 0 ∨ k / 8 = 1 ∨ k / 8 = 2 ∨ k / 8 = 3 := by omega
    rcases quotient with h | h | h | h <;> rw [h] <;> rfl
  rw [octets, bitmapOctet_getLsbD a _ (Nat.mod_lt k (by omega)), Nat.div_add_mod]

/-- R63, R157: the roster response, octet for octet. -/
theorem State.rosterOctets_eq (s : State) :
    s.rosterOctets = [s.station.code] ++ s.shownSet s.roster.roster ++ s.shownSet s.roster.synced ++
      [if s.census.joiners = [] then 0 else 1] ++ s.shownSet s.census.joiners ++
      [BitVec.ofNat 8 (s.table.sequence.toNat / 256), BitVec.ofNat 8 s.table.sequence.toNat,
        BitVec.ofNat 8 (s.roster.missesOf s.own)] := by
  have freeze : octet s.census.freeze.toNat = if s.census.joiners = [] then 0 else 1 := by
    cases joiners : s.census.joiners <;> simp [Census.freeze, joiners, octet]
  rw [State.rosterOctets, freeze]
  simp only [octetsOfWord, octet, List.append_assoc, List.cons_append, List.nil_append]

/-- Settles O13: `State.rosterOctets_eq` and `bitmapOctets_getLsbD`. -/
theorem rosterAndIdentReads : Obligations.RosterAndIdentReads := by
  unfold Obligations.RosterAndIdentReads
  refine ⟨fun s high => ?_, fun a => ⟨rfl, fun k small => bitmapOctets_getLsbD a small, ?_⟩⟩
  · intro shown misses data
    have counted : s.roster.missesOf s.own = misses := by
      simp only [RosterUnit.missesOf, misses, State.own]
      split <;> rename_i found <;> rw [found] <;> rfl
    have answered : (.ok : Answer).code :: s.rosterOctets = data := by
      rw [State.rosterOctets_eq, counted]
      rfl
    rw [← answered]
    exact ⟨congrArg Host.Outcome.next (State.hostTake_of_high high State.readRoster),
      congrArg Host.Outcome.next (State.hostTake_of_high high State.readIdent)⟩
  · exact setOf_congr fun k small => bitmapOctets_getLsbD a small

end Sys2Proof.Machine
end

section
/-! The attention sources at the host port: ATTENTION, ACKNOWLEDGE and ATN (R160 to R166). -/

namespace Sys2Proof.Machine

/-! ### The sources (R159, R160) -/

theorem Attention.source_of_other (x : Attention) {code : Nat} (other : code ∉ [1, 2, 3, 4, 13, 14]) :
    x.source code = none := by
  unfold Attention.source
  split
  case h_7 => rfl
  all_goals exact absurd (by decide) other

/-- R160: the source of code `5 + k` is slot `k`. -/
theorem Attention.source_of_slot (x : Attention) {k : Nat} (small : k < 8) : x.source (5 + k) = none := by
  refine x.source_of_other ?_
  simp only [List.mem_cons, List.not_mem_nil, or_false]
  omega

theorem State.sourcePending_of_slot (s : State) {k : Nat} (small : k < 8) :
    s.sourcePending (5 + k) = (s.slotAt k).changed := by
  have within : 5 ≤ 5 + k ∧ 5 + k ≤ 12 := by omega
  rw [State.sourcePending, Attention.source_of_slot _ small]
  simp [within]

/-- R163: the sources in the order of their codes, each with its pending flag and its detail. -/
def State.sources (s : State) : List (Bool × Byte) :=
  sourceCodes.map fun code => (s.sourcePending code, s.sourceDetail code)

/-- R159: the codes are 1 to 14, in order. -/
theorem sourceCodes_eq : sourceCodes = (List.range 14).map (· + 1) := rfl

theorem State.sources_getD (s : State) (n : Nat) :
    s.sources.getD n (false, 0) =
      if n < 14 then (s.sourcePending (n + 1), s.sourceDetail (n + 1)) else (false, 0) := by
  rw [State.sources, sourceCodes_eq, List.getD_eq_getElem?_getD]
  split <;> rename_i small <;> simp [small]

/-! ### The pending set (R159, R163, R164) -/

/-- R163: the highest pending source is the first pending one of the list. -/
theorem State.highestPending_eq (s : State) :
    s.highestPending = (s.sources.findIdx? fun x => x.1).map (· + 1) := by
  have flags : (s.sources.findIdx? fun x => x.1) = sourceCodes.findIdx? s.sourcePending := List.findIdx?_map
  rw [flags, State.highestPending, List.find?_eq_bind_findIdx?_getElem?]
  cases found : sourceCodes.findIdx? s.sourcePending with
  | none => rfl
  | some i =>
    obtain ⟨small, -⟩ := List.findIdx?_eq_some_iff_getElem.mp found
    have small : i < 14 := small
    simp [sourceCodes_eq, small]

theorem testBit_numberOfBits_beyond (p : Nat → Bool) {n i : Nat} (beyond : n ≤ i) : (numberOfBits p n).testBit i = false :=
  Nat.testBit_lt_two_pow (lt_of_lt_of_le (numberOfBits_lt p n) (Nat.pow_le_pow_right (by omega) beyond))

/-- R164: bit `n` of the pending set is the source of code `n + 1`. -/
theorem State.pendingWord_getLsbD (s : State) {n : Nat} (small : n < 16) :
    s.pendingWord.getLsbD n = (s.sources.getD n (false, 0)).1 := by
  have word : s.pendingWord = BitVec.ofNat 16 (numberOfBits (fun i => s.sourcePending (i + 1)) 14) := rfl
  rw [word, BitVec.getLsbD_ofNat, decide_eq_true small, Bool.true_and, State.sources_getD]
  split
  · rename_i source
    rw [testBit_numberOfBits _ source]
  · rename_i beyond
    rw [testBit_numberOfBits_beyond _ (by omega)]

theorem octet_low_getLsbD (w : Word16) {i : Nat} (small : i < 8) : (octet w.toNat).getLsbD i = w.getLsbD i := by
  rw [octet, BitVec.getLsbD_ofNat, BitVec.testBit_toNat, decide_eq_true small, Bool.true_and]

theorem octet_high_getLsbD (w : Word16) {i : Nat} (small : i < 8) :
    (octet (w.toNat / 256)).getLsbD i = w.getLsbD (8 + i) := by
  rw [octet, BitVec.getLsbD_ofNat, show w.toNat / 256 = w.toNat / 2 ^ 8 from rfl, Nat.testBit_div_two_pow,
    BitVec.testBit_toNat, decide_eq_true small, Bool.true_and, Nat.add_comm]

/-! ### ATTENTION (R164) -/

/-- R164: the answer where no source is pending. -/
theorem State.attentionOctets_of_none {s : State} (calm : s.highestPending = none) :
    s.attentionOctets = [0, 0, octet (s.pendingWord.toNat / 256), octet s.pendingWord.toNat] := by
  rw [State.attentionOctets, calm]
  rfl

/-- R164: the answer where some source is pending. -/
theorem State.attentionOctets_of_some {s : State} {code : Nat} (highest : s.highestPending = some code) :
    s.attentionOctets =
      [octet code, s.sourceDetail code, octet (s.pendingWord.toNat / 256), octet s.pendingWord.toNat] := by
  rw [State.attentionOctets, highest]
  rfl

/-- Settles O14: the first pending source by `State.highestPending_eq`, the set by `State.pendingWord_getLsbD`. -/
theorem attentionReportsHighestPending : Obligations.AttentionReportsHighestPending := by
  unfold Obligations.AttentionReportsHighestPending
  intro s high sources
  have listed : sources = s.sources := rfl
  have taken : exec .attention s = .next (s.respond .ok s.attentionOctets) :=
    congrArg Host.Outcome.next (State.hostTake_of_high high State.readAttention)
  have bits : ∀ n, n < 8 → (octet s.pendingWord.toNat).getLsbD n = (s.sources.getD n (false, 0)).1 ∧
      (octet (s.pendingWord.toNat / 256)).getLsbD n = (s.sources.getD (8 + n) (false, 0)).1 := fun n small => by
    rw [octet_low_getLsbD _ small, octet_high_getLsbD _ small, State.pendingWord_getLsbD s (by omega),
      State.pendingWord_getLsbD s (by omega)]
    exact ⟨rfl, rfl⟩
  have first := s.highestPending_eq
  rw [listed, taken]
  cases found : s.sources.findIdx? fun x => x.1 with
  | none =>
    rw [found] at first
    rw [State.attentionOctets_of_none first]
    exact ⟨0, 0, _, _, rfl, .inl ⟨rfl, rfl, rfl⟩, bits⟩
  | some i =>
    rw [found] at first
    have small : i < 14 := (List.findIdx?_eq_some_iff_getElem.mp found).1
    rw [State.attentionOctets_of_some first]
    refine ⟨i + 1, s.sourceDetail (i + 1), _, _, rfl, .inr ⟨i, rfl, rfl, ?_⟩, bits⟩
    rw [State.sources_getD, if_pos small]

/-! ### ACKNOWLEDGE (R165) -/

/-- R162, R165: the source an ACKNOWLEDGE names, with the sources that it leaves. -/
theorem Attention.source_acknowledged (x : Attention) (a : Byte) :
    (x.source a.toNat).map (fun y => (y, x.acknowledged a.toNat)) =
      if a = 1 then some (x.halt, { x with halt := .clear })
      else if a = 2 then some (x.out, { x with out := .clear })
      else if a = 3 then some (x.line, { x with line := .clear })
      else if a = 4 then some (x.state, { x with state := .clear })
      else if a = 13 then some (x.roster, { x with roster := .clear })
      else if a = 14 then some (x.foreign, { x with foreign := .clear })
      else none := by
  split_ifs
  case neg =>
    have other : a.toNat ∉ [1, 2, 3, 4, 13, 14] := by
      simp only [List.mem_cons, List.not_mem_nil, or_false]
      bv_omega
    rw [x.source_of_other other]
    rfl
  all_goals subst a; rfl

theorem State.acknowledge_of_none {s : State} {a : Byte} (unnamed : s.attention.source a.toNat = none) :
    s.acknowledge a = s.respond .badRequest [] := by
  rw [State.acknowledge, unnamed]

theorem State.acknowledge_of_some {s : State} {a : Byte} {x : Source} (named : s.attention.source a.toNat = some x) :
    s.acknowledge a =
      if x.pending then ({ s with attention := s.attention.acknowledged a.toNat }).respond .ok []
      else s.respond .nothing [] := by
  rw [State.acknowledge, named]

/-- Settles O15: the source named, by `Attention.source_acknowledged`, and its pending flag. -/
theorem acknowledgeClearsNamedSource : Obligations.AcknowledgeClearsNamedSource := by
  unfold Obligations.AcknowledgeClearsNamedSource
  intro a s high clear own
  have taken : exec (.acknowledge a) s = .next (s.acknowledge a) :=
    congrArg Host.Outcome.next (State.hostTake_of_high high _)
  have names : (s.attention.source a.toNat).map (fun y => (y, s.attention.acknowledged a.toNat)) = own :=
    s.attention.source_acknowledged a
  rw [taken, ← names]
  cases named : s.attention.source a.toNat with
  | none =>
    rw [State.acknowledge_of_none named]
    refine ⟨fun _ => rfl, fun _ _ no => ?_, fun _ _ no => ?_⟩ <;> cases no
  | some x =>
    rw [State.acknowledge_of_some named]
    refine ⟨fun no => ?_, fun x y same unset => ?_, fun x y same pending => ?_⟩
    · cases no
    · obtain ⟨rfl, rfl⟩ := Prod.mk.inj (Option.some.inj same)
      rw [unset]
      rfl
    · obtain ⟨rfl, rfl⟩ := Prod.mk.inj (Option.some.inj same)
      rw [pending]
      rfl

/-! ### ATN (R166) -/

/-- R160: the six sources of the host port and the eight slots. -/
theorem any_sourceCodes (p : Nat → Bool) : sourceCodes.any p = true ↔
    p 1 = true ∨ p 2 = true ∨ p 3 = true ∨ p 4 = true ∨ (∃ k, k < 8 ∧ p (5 + k) = true) ∨ p 13 = true ∨ p 14 = true := by
  have split : sourceCodes = [1, 2, 3, 4] ++ (List.range 8).map (5 + ·) ++ [13, 14] := rfl
  rw [split]
  simp

theorem groupBit_of_slot {k : Nat} (small : k < 8) : groupBit (5 + k) = 4 := by
  rw [groupBit, if_neg (by omega), if_pos (by omega)]

/-- Settles O16: the sources one by one, the slots by `State.sourcePending_of_slot`. -/
theorem atnFollowsEnabledSources : Obligations.AtnFollowsEnabledSources := by
  unfold Obligations.AtnFollowsEnabledSources
  intro s
  have slots : (∃ k, k < 8 ∧ (s.sourcePending (5 + k) && s.config.mask.getLsbD (groupBit (5 + k))) = true) ↔
      (∃ k, k < 8 ∧ (s.slotAt k).changed = true) ∧ s.config.mask.getLsbD 4 = true := by
    constructor
    · rintro ⟨k, small, both⟩
      rw [s.sourcePending_of_slot small, groupBit_of_slot small, Bool.and_eq_true] at both
      obtain ⟨changed, enabled⟩ := both
      exact ⟨⟨k, small, changed⟩, enabled⟩
    · rintro ⟨⟨k, small, changed⟩, enabled⟩
      exact ⟨k, small, by rw [s.sourcePending_of_slot small, groupBit_of_slot small, changed, enabled]; rfl⟩
  rw [State.atnLow, Bool.and_eq_true, Bool.not_eq_true', any_sourceCodes, slots]
  simp only [Bool.and_eq_true]
  rfl

end Sys2Proof.Machine
end

section
/-! RESTART at the host port (R27, R50, R77, R119, R141, R145, R150, R156, R169, R175, R176). -/

namespace Sys2Proof.Machine

/-! ### The entries that a RESTART keeps (R119, R141) -/

/-- R119, R141: the kinds of entry that a RESTART keeps where it frees some slots besides: the CLAIM entries of the QUEUED
slots that it does not free. -/
def State.keepsBut (s : State) (goes : Nat → Bool) (k : EntryKind) : Bool :=
  match k with
  | .claim tag => (s.slotAt tag).state == .queued && !goes tag
  | _ => false

theorem State.keepsBut_none (s : State) : (s.keepsBut fun _ => false) = s.keepsKind := by
  funext k
  cases k with
  | claim tag => exact Bool.and_true _
  | _ => rfl

/-- R103: the one entry marked as on the line is the entry on the line. -/
theorem Outbound.onLine_of_alone {o : Outbound} {e : Entry} (alone : (o.entries.filter fun x => x.onLine) = [e]) :
    o.onLine = some e := by
  rw [Outbound.onLine, ← List.head?_filter, alone]
  rfl

/-- R103: where the only entry on the line fails a test of kinds, its removal leaves every entry that meets it. -/
theorem filter_offLine_of_alone {l : List Entry} {e : Entry} (alone : (l.filter fun x => x.onLine) = [e])
    {p : EntryKind → Bool} (other : p e.kind = false) :
    ((l.filter fun x => !x.onLine).filter fun x => p x.kind) = l.filter fun x => p x.kind := by
  rw [List.filter_filter]
  refine List.filter_congr fun x held => ?_
  cases on : x.onLine
  · exact Bool.and_true _
  · have sent : x ∈ l.filter fun x => x.onLine := List.mem_filter.mpr ⟨held, on⟩
    rw [alone] at sent
    rw [List.mem_singleton.mp sent, other]
    rfl

/-- R119, R141: the CLAIM entries that a clearing keeps after slot `k` was freed are those it keeps of the other slots. -/
theorem State.keepsKind_of_freed {s u : State} {k : Nat} {freed : Slot} (slots : u.slots = s.slots.set k freed)
    (free : freed.state = .free) (busy : (s.slotAt k).state ≠ .free) : u.keepsKind = s.keepsBut fun j => j == k := by
  obtain ⟨inside, -⟩ := State.mem_slots_of_busy busy
  funext kind
  cases kind with
  | claim j =>
    by_cases same : j = k
    · simp [State.keepsKind, State.keepsBut, State.slotAt, slots, List.getD_eq_getElem?_getD, same, inside, free]
    · simp [State.keepsKind, State.keepsBut, State.slotAt, slots, List.getD_eq_getElem?_getD, same, Ne.symm same]
  | _ => rfl

/-! ### The attempt that a RESTART breaks off (R110, R141, R176) -/

/-- R110, R119, R176: what breaking off a frame leaves of slots and CLAIM entries where the withdrawal of no CLAIM waits:
the slots as they were, and every entry that a clearing keeps. -/
theorem State.endAttempt_keeps {s : State}
    (plain : (∀ e ∈ s.outbound.entries, e.withdrawn = false) ∨
      ∃ e, (s.outbound.entries.filter fun x => x.onLine) = [e] ∧ ∀ k, e.kind ≠ .claim k) :
    (s.endAttempt false).slots = s.slots ∧
      ((s.endAttempt false).outbound.entries.map Entry.kind).filter s.keepsKind =
        (s.outbound.entries.map Entry.kind).filter s.keepsKind := by
  obtain ⟨-, same⟩ | ⟨e, sent, waits, -⟩ | ⟨e, sent, stays, -⟩ := s.endAttempt_cases false
  · rw [same]
    exact ⟨rfl, rfl⟩
  · obtain none_waits | ⟨x, alone, no_claim⟩ := plain
    · rw [none_waits e (s.outbound.onLine_some e sent).1] at waits
      contradiction
    · obtain rfl := Option.some.inj ((Outbound.onLine_of_alone alone).symm.trans sent)
      have unkept : s.keepsKind x.kind = false := by
        unfold State.keepsKind
        split
        · exact absurd ‹_› (no_claim _)
        · rfl
      rw [State.endAttempt_withdrawn_plain sent waits fun k claim => absurd claim (no_claim k)]
      refine ⟨rfl, ?_⟩
      rw [List.filter_map, List.filter_map]
      exact congrArg (List.map Entry.kind) (filter_offLine_of_alone alone unkept)
  · rw [State.endAttempt_returned sent stays]
    refine ⟨rfl, ?_⟩
    simp only [List.map_map, Function.comp_def, Entry.returned_kind]

/-- R141: breaking off the CLAIM of a drop-wanted slot frees the slot, and the CLAIM goes. -/
theorem State.endAttempt_dropWanted {s : State} {e : Entry} {k : Nat} (sent : s.outbound.onLine = some e)
    (claim : e.kind = .claim k) (waits : e.withdrawn = true) (queued : (s.slotAt k).state = .queued)
    (wanted : (s.slotAt k).dropWanted = true) :
    s.endAttempt false = { s with
      outbound := { s.outbound with entries := s.outbound.entries.filter (fun x => !x.onLine), sending := [] }
      slots := s.slots.set k
        { state := .free, mode := none, zones := [], reason := none, changed := true, dropWanted := false } } := by
  have busy : (s.slotAt k).state ≠ .free := by rw [queued]; decide
  rw [State.endAttempt, sent]
  simp only [waits, claim, State.settleDropWanted, EntryKind.claimTag, if_true]
  exact (if_pos wanted).trans (State.updateSlot_free busy)

/-- R141: the settlement of the slots after one was freed. -/
theorem map_settle_set (r : Reason) (freed : Slot) (l : List Slot) (k : Nat) :
    (l.set k freed).map (Slot.settle r) =
      l.zipIdx.map fun p => if (p.2 == k) = true then freed.settle r else p.1.settle r := by
  refine List.ext_getElem? fun i => ?_
  simp only [List.getElem?_map, List.getElem?_zipIdx, List.getElem?_set, Option.map_map, Function.comp_def, Nat.zero_add]
  by_cases same : k = i
  · subst same
    by_cases inside : k < l.length <;> simp [inside]
  · simp [same, Ne.symm same]

/-! ### The RESTART (R156, R175, R176) -/

/-- R175, R176: what a RESTART comes to, in the slots and entries that the end of the attempt leaves. -/
theorem State.restartNow_frame (s : State) :
    s.restartNow = { s with
      station := .listen
      table := .cleared
      census := .cleared
      roster := .cleared
      lease := s.stopTimers.lease
      outbound := ((s.endAttempt false).giveUp .restarted).outbound
      slots := (s.endAttempt false).slots.map (Slot.settle .restarted)
      attention := { s.attention with state := .raised 1 }
      line := { s.line with tracking := .recovering, recoverRun := 0, ltx := .rest, rx := none }
      judgement := none } := by
  have frame := s.endAttempt_frame false
  unfold State.restartNow
  generalize s.endAttempt false = u at frame ⊢
  rw [frame]
  rfl

/-- R156: in every state but CONFIG and LISTEN the station restarts. -/
theorem exec_restart_of_away {s : State} (high : s.resetnLow = false) (running : s.station ≠ .config)
    (left : s.station ≠ .listen) : exec .restart s = .next (s.restartNow.respond .ok []) := by
  have restarts : s.station.restarts = true := by simp [StationState.restarts, running, left]
  exact congrArg Host.Outcome.next ((State.hostTake_of_high high State.hostRestart).trans (if_pos restarts))

/-- R156: in CONFIG and LISTEN the command is refused. -/
theorem exec_restart_of_idle {s : State} (high : s.resetnLow = false) (idle : s.station = .config ∨ s.station = .listen) :
    exec .restart s = .next (s.respond .wrongState []) := by
  have stays : ¬s.station.restarts = true := by rcases idle with h | h <;> simp [StationState.restarts, h]
  exact congrArg Host.Outcome.next ((State.hostTake_of_high high State.hostRestart).trans (if_neg stays))

/-- Settles O18: the restart is `restartNow_frame`; the slots and entries are by `endAttempt_keeps` where no CLAIM goes, and
by `endAttempt_dropWanted` where the CLAIM of a drop-wanted slot goes. -/
theorem restartGivesUpTheCell : Obligations.RestartGivesUpTheCell := by
  unfold Obligations.RestartGivesUpTheCell
  intro s high kept freed settle restarted
  have comes_to : ∀ goes : Nat → Bool, s.station ≠ .config → s.station ≠ .listen →
      ((s.endAttempt false).outbound.entries.map Entry.kind).filter (s.endAttempt false).keepsKind =
        (s.outbound.entries.map Entry.kind).filter (s.keepsBut goes) →
      (s.endAttempt false).slots.map (Slot.settle .restarted) =
        s.slots.zipIdx.map (fun p => if goes p.2 = true then freed else settle p.1) →
      exec .restart s = .next (restarted goes) := by
    intro goes running left entries slots
    rw [exec_restart_of_away high running left, State.restartNow_frame, State.giveUp_entries, entries, slots,
      ← map_fresh_filter_kind]
    rfl
  have settled : ∀ b : Slot, b.settle .restarted = settle b := fun b => b.settle_eq .restarted
  refine ⟨exec_restart_of_idle high, fun running left plain => ?_,
    fun e k running left alone claim waits queued wanted => ?_⟩
  · obtain ⟨slots, entries⟩ := State.endAttempt_keeps plain
    have keeps : (s.endAttempt false).keepsKind = s.keepsKind := by
      funext x
      simp only [State.keepsKind, State.slotAt, slots]
    refine comes_to _ running left ?_ ?_
    · rw [keeps, entries, State.keepsBut_none]
    · rw [slots, funext settled]
      simp only [Bool.false_eq_true, if_false]
      rw [← Function.comp_def settle, ← List.map_map, List.zipIdx_map_fst]
  · have ended := State.endAttempt_dropWanted (Outbound.onLine_of_alone alone) claim waits queued wanted
    have keeps : (s.endAttempt false).keepsKind = s.keepsBut fun j => j == k :=
      State.keepsKind_of_freed (congrArg State.slots ended) rfl (by rw [queued]; decide)
    refine comes_to _ running left ?_ ?_
    · have unkept : (s.keepsBut fun j => j == k) e.kind = false := by
        rw [claim]
        simp [State.keepsBut]
      rw [keeps, ended, List.filter_map, List.filter_map]
      exact congrArg (List.map Entry.kind) (filter_offLine_of_alone alone unkept)
    · rw [ended]
      change (s.slots.set k freed).map (Slot.settle .restarted) = _
      rw [map_settle_set]
      simp only [settled]
      rfl

end Sys2Proof.Machine
end

section
/-! The cold reset and the release of RESETN (R27, R50, R64, R77, R119, R133, R150, R154, R167, R170, R172, R179, R180). -/

namespace Sys2Proof.Machine

/-! ### The cold reset (R179) and the release (R154, R180) -/

/-- R150, R162, R167: with no source of the host port pending and every slot fresh, no source is pending. -/
theorem State.sourcePending_of_reset {s : State} (attention : s.attention = .reset)
    (slots : s.slots = List.replicate Config.slotCount Slot.fresh) (code : Nat) : s.sourcePending code = false := by
  have fresh : ∀ k, s.slotAt k = Slot.fresh := fun k => by
    rw [State.slotAt, slots, List.getD_eq_getElem?_getD, List.getElem?_getD_replicate_default_eq]
  have calm : ∀ x, Attention.reset.source code = some x → x.pending = false := fun x named => by
    unfold Attention.source at named
    split at named <;> cases named <;> rfl
  rw [State.sourcePending, attention]
  split
  · exact calm _ ‹_›
  · rw [fresh]
    exact Bool.and_false _

/-- R154, R180: with RESETN low its release starts the tick counter from 0 and ignores a transaction under way. -/
theorem State.releaseReset_of_low {s : State} (low : s.resetnLow = true) (csnLow : Bool) :
    s.releaseReset csnLow = { s with
      resetnLow := false
      lease := { s.lease with divider := 0, ticks := 0 }
      port := if csnLow = true then .ignoring else .idle } :=
  if_pos low

/-- R180: with RESETN high its release changes nothing. -/
theorem State.releaseReset_of_high {s : State} (high : s.resetnLow = false) (csnLow : Bool) : s.releaseReset csnLow = s :=
  if_neg (by simp [high])

/-- Settles O19: the fields of `coldValues`, the sources by `sourcePending_of_reset`, and the two cases of the release. -/
theorem coldResetAndRelease : Obligations.ColdResetAndRelease := by
  unfold Obligations.ColdResetAndRelease
  refine ⟨fun s => ?_, fun csnLow s => ⟨fun low => ?_, fun high => ?_⟩⟩
  · have cold : exec .coldReset s = .next { s.coldValues with resetnLow := true } := rfl
    refine ⟨_, cold, rfl, rfl, rfl, rfl, rfl, rfl, rfl, rfl, rfl, rfl, rfl, rfl, rfl, rfl, rfl, ?sources,
      rfl, rfl, rfl, rfl, rfl, rfl, rfl, ?sdo, ?atn, rfl, rfl, rfl, rfl, rfl, rfl, rfl, rfl, rfl, rfl, rfl, rfl, rfl⟩
    case sources => exact State.sourcePending_of_reset rfl rfl
    case sdo => exact State.sdo_of_low rfl
    case atn => exact State.atnLow_of_low rfl
  · exact congrArg Host.Outcome.next (State.releaseReset_of_low low csnLow)
  · exact congrArg Host.Outcome.next (State.releaseReset_of_high high csnLow)

/-! ### The reset state (R172, R180) -/

theorem ConfigSet.reset_failedCheck : ConfigSet.reset.failedCheck = 0 := by decide

/-- R27, R49, R81: the roster and the census state are clear, as in every station state that keeps neither. -/
theorem State.reset_roster_census : State.reset.RosterFits ∧ State.reset.CensusFits ∧ State.reset.CensusBounds := by
  decide

/-- Section 8.2 of 08: every slot is FREE, with no record and no entry. -/
theorem State.reset_slotsAgree : State.reset.SlotsAgree :=
  ⟨by decide, fun _ held => absurd held List.not_mem_nil⟩

theorem State.reset_inv : State.reset.Inv := by
  obtain ⟨⟨⟨slots, place, config⟩, leases⟩, wf⟩ := State.reset_good
  obtain ⟨outbound, entries, silent⟩ : State.reset.OutboundKept :=
    State.outboundKept_of_none rfl (State.silentWhere_of_rest rfl)
  obtain ⟨roster, census, -⟩ := State.reset_roster_census
  exact ⟨config, wf, place, slots, outbound, roster, census, silent, entries, leases⟩

/-- R180: the reset state is what a cold reset of it and the release leave. -/
theorem State.reset_coldReset_release :
    exec .coldReset State.reset = .next { State.reset with resetnLow := true } ∧
      exec (.resetnRelease false) { State.reset with resetnLow := true } = .next State.reset :=
  ⟨rfl, congrArg Host.Outcome.next (State.releaseReset_of_low rfl false)⟩

/-- Settles O20: `reset_inv`, `reset_slotsAgree` and `reset_roster_census`; the table holds no record. -/
theorem resetMeetsEveryCondition : Obligations.ResetMeetsEveryCondition := by
  unfold Obligations.ResetMeetsEveryCondition
  obtain ⟨-, -, bounds⟩ := State.reset_roster_census
  exact ⟨State.reset_inv, State.reset_slotsAgree, fun _ held => absurd held List.not_mem_nil, bounds,
    ConfigSet.reset_failedCheck, _, State.reset_coldReset_release⟩

end Sys2Proof.Machine
end
